-- ==== Sys2Proof/Word.lean ====
section
/-! DEFINITION. The byte type of the two serial ports and of the image, and nothing else: every width that a later
repair could touch is in Machine/. -/

namespace Sys2Proof

/-- A byte of a host frame, of a line character or of the nonvolatile image. -/
abbrev Byte := BitVec 8

end Sys2Proof
end

