-- ==== Sys2Proof/Machine/Bytes.lean ====
section
/-! DEFINITION. Bytes and numbers on the host port (R151) and in the image (R174), and the CRC-16 of both (R152). -/

namespace Sys2Proof

/-- One byte of a number. -/
def byteOf (n : Nat) : Byte := BitVec.ofNat 8 n

/-- A two-byte number, high byte first (R151). -/
def be16 (n : Nat) : List Byte := [byteOf (n / 256), byteOf n]

/-- A four-byte number, high byte first (R151). -/
def be32 (n : Nat) : List Byte := [byteOf (n / 16777216), byteOf (n / 65536), byteOf (n / 256), byteOf n]

/-- A signed four-byte number in two's complement (R151). -/
def beKey (n : Int) : List Byte := be32 (BitVec.ofInt 32 n).toNat

/-- A value of T, or FFFFFFFFh when absent (R151). -/
def beTime (t : Option Nat) : List Byte := be32 (t.getD 4294967295)

/-- An optional one-byte number, 255 when absent (R151). -/
def byteOr255 (n : Option Nat) : Byte := byteOf (n.getD 255)

/-- Yes and no fields packed as bits of a byte, the first with value 1 (R151). -/
def flagsNat : List Bool → Nat
  | [] => 0
  | b :: bs => b.toNat + 2 * flagsNat bs

/-- A flags byte (R151). -/
def flagsByte (bits : List Bool) : Byte := byteOf (flagsNat bits)

/-- Byte `k` of a payload as a number; 0 beyond its end. -/
def byteAt (p : List Byte) (k : Nat) : Nat := (p[k]?.getD 0#8).toNat

/-- The two-byte number at offset `k`. -/
def wordAt (p : List Byte) (k : Nat) : Nat := byteAt p k * 256 + byteAt p (k + 1)

/-- Bit `b` of byte `k`. -/
def flagAt (p : List Byte) (k b : Nat) : Bool := (p[k]?.getD 0#8).getLsbD b

/-- A one-byte number of which 255 means none (R151). -/
def optionOf (n : Nat) : Option Nat := if n = 255 then none else some n

/-- One shift of the CRC-16 register (R152). -/
def crc16Shift (r : BitVec 16) : BitVec 16 := if r.msb then (r <<< 1) ^^^ 0x1021#16 else r <<< 1

/-- The CRC-16 register after one more covered byte (R152). -/
def crc16Step (r : BitVec 16) (b : Byte) : BitVec 16 :=
  Nat.repeat crc16Shift 8 (r ^^^ (b.setWidth 16 <<< 8))

/-- The frame check of the covered bytes (R152). -/
def crc16 (covered : List Byte) : BitVec 16 := covered.foldl crc16Step 0xFFFF#16

/-- The check as it is sent, high byte first (R152). -/
def crc16Bytes (covered : List Byte) : List Byte := be16 (crc16 covered).toNat

end Sys2Proof
end

