-- ==== Sys2Proof/Syntax.lean ====
section
/-! DEFINITION. The commands of the CL-48: one constructor of `Instr` for each row of spec/opcode_table.json, in the
table's order, and the data their operands carry. Numbers are `Nat`; WellFormed.lean gives their ranges. -/

namespace Sys2Proof

/-- A character as it stands on the actuator line between start and stop bit (R108): the eight value bits, the address
mark (ninth data bit), the parity bit and the stop bit, as sampled (`true` is the high level). -/
structure LineChar where
  value  : Byte
  mark   : Bool
  parity : Bool
  stop   : Bool
  deriving DecidableEq, Repr

/-- The configured fields of OPENING-WRITE as sent (section 8.5); zone and lamp 255 are "none". -/
structure OpeningWire where
  enabled        : Bool
  reachable      : Bool
  address        : Nat
  travel         : Nat
  tolerance      : Nat
  speed          : Nat
  inrush         : Nat
  run            : Nat
  inrushDuration : Nat
  zone           : Nat
  lamp           : Nat
  deriving DecidableEq, Repr

/-- The group record of GROUP-WRITE as sent (section 8.5); bearing 8 is ROOF. The member count is the list's length. -/
structure GroupWire where
  bearing   : Nat
  chained   : Bool
  firstDrop : Bool
  gustLimit : Nat
  meanLimit : Nat
  leeGrace  : Nat
  members   : List Nat
  deriving DecidableEq, Repr

/-- The site record as sent, in the order of R159; lamps of 255 are "none". -/
structure SiteWire where
  factorK         : Nat
  leeMargin       : Nat
  calmHold        : Nat
  rainMask        : Nat
  shortLevel      : Nat
  wetLevel        : Nat
  openLevel       : Nat
  rainConfirm     : Nat
  dryConfirm      : Nat
  forecastMargin  : Nat
  retryLimit      : Nat
  retryDelay      : Nat
  manualAllowance : Nat
  budget          : Nat
  derateStart     : Nat
  cutoffVoltage   : Nat
  warningInterval : Nat
  failClosed      : Bool
  soundMoving     : Bool
  tones           : Vector Nat 4
  cadences        : Vector Nat 4
  rainLamp        : Nat
  windLamp        : Nat
  faultLamp       : Nat
  supplyLamp      : Nat
  replyTimeout    : Nat
  alertMask       : Nat
  deriving DecidableEq, Repr

/-- A host request without its tag (section 8.5). STORE-LOCK carries beside its payload whether the lock byte, once
programmed, verifies (R176): that is the store's answer, not the host's. -/
inductive Request where
  | statusRead
  | openingRead (opening : Nat)
  | openingWrite (opening : Nat) (fields : OpeningWire)
  | groupRead (group copy : Nat)
  | groupWrite (group : Nat) (fields : GroupWire)
  | groupApply (group : Nat)
  | siteRead
  | siteWrite (fields : SiteWire)
  | move (opening target : Nat)
  | groupClose (group : Nat)
  | cancel (opening : Nat)
  | stop (opening : Nat)
  | hold (opening minutes : Nat)
  | forecast (ftag onset duration gust mask : Nat)
  | forecastWithdraw (ftag : Nat)
  | jobsRead (start : Nat)
  | weatherRead (part : Nat)
  | nodeRead (opening : Nat)
  | countersReadClear
  | alertsAck (flags : Nat)
  | storeSave
  | storeErase
  | storeLock (verifies : Bool)
  | restart
  deriving DecidableEq, Repr

/-- The commands: the rows of spec/opcode_table.json, in its order. Host requests carry the tag of their frame first. -/
inductive Instr where
  | powerOnReset
  | crystalWaitEnd
  | pinReset
  | nresetRelease
  | imageLoadComplete
  | tenthsAdvance
  | supplyEvent (reading : Nat)
  | inrushEnd (opening : Nat)
  | residualExpiry (opening : Nat)
  | anemometerPulse
  | sampleEvent (vaneFirst vaneSecond : BitVec 3) (levels : Vector Nat 4)
  | forecastExpiry (ftag : Nat)
  | supervisionEvent
  | retryWaitEnd (opening : Nat)
  | motionTimeout (opening : Nat)
  | deadlineMissed (opening : Nat)
  | holdExpiry (opening : Nat)
  | warningEnd (opening : Nat)
  | warningOutputs100msEvent
  | cadenceTurnover (zone : Nat)
  | panelFrame
  | nodeSupervisor100msEvent
  | pollDue (opening : Nat)
  | arbiterStart
  | requestSent
  | haltAllSent
  | replyTimeout
  | replyGapTimeout
  | replyCharacterFault (char : LineChar)
  | replyComplete (chars : List LineChar)
  | resendDelayEnd
  | quietWaitEnd
  | svcreqAsserted
  | svcreqReleased
  | serviceGrant
  | guardEnd
  | hostFrameComplete (bytes : List Byte)
  | hostFrameTimeout
  | recordSent
  | statusRead (tag : Nat)
  | openingRead (tag opening : Nat)
  | openingWrite (tag opening : Nat) (fields : OpeningWire)
  | groupRead (tag group copy : Nat)
  | groupWrite (tag group : Nat) (fields : GroupWire)
  | groupApply (tag group : Nat)
  | siteRead (tag : Nat)
  | siteWrite (tag : Nat) (fields : SiteWire)
  | move (tag opening target : Nat)
  | groupClose (tag group : Nat)
  | cancel (tag opening : Nat)
  | stop (tag opening : Nat)
  | hold (tag opening minutes : Nat)
  | forecast (tag ftag onset duration gust mask : Nat)
  | forecastWithdraw (tag ftag : Nat)
  | jobsRead (tag start : Nat)
  | weatherRead (tag part : Nat)
  | nodeRead (tag opening : Nat)
  | countersReadClear (tag : Nat)
  | alertsAck (tag flags : Nat)
  | storeSave (tag : Nat)
  | storeErase (tag : Nat)
  | storeLock (tag : Nat) (verifies : Bool)
  | restart (tag : Nat)
  | eraseSectorDone (blank : Bool)
  | programSectorDone (verified : Bool)
  | sectorTimeout
  | replyCharacterReceived (char : LineChar)
  | hostByteReceived (byte : Byte)
  | logicSupplyLoss
  deriving DecidableEq, Repr

end Sys2Proof
end

