-- ==== Sys2Proof/Decode.lean ====
section
/-! DEFINITION. Decoding: `decodeTableWord` over the table's rows (none gives bits), and the host requests as section
8.5 lays them out in bytes, with the encoder that writes them. -/

namespace Sys2Proof

/-- The command a word spells by the table's bits: no row of spec/opcode_table.json gives bits, so no word spells one. -/
def decodeTableWord (_nbits _w : Nat) : Option Instr := none

/-! ## Records inside payloads -/

/-- The 11 bytes of an opening's configured fields (section 8.5, R161, R174). -/
def OpeningWire.bytes (w : OpeningWire) : List Byte :=
  [flagsByte [w.enabled, w.reachable], byteOf w.address] ++ be16 w.travel
    ++ [byteOf w.tolerance, byteOf w.speed, byteOf w.inrush, byteOf w.run, byteOf w.inrushDuration, byteOf w.zone,
        byteOf w.lamp]

/-- The configured fields in the 11 bytes from offset `k`. -/
def openingWireAt (p : List Byte) (k : Nat) : OpeningWire where
  enabled := flagAt p k 0
  reachable := flagAt p k 1
  address := byteAt p (k + 1)
  travel := wordAt p (k + 2)
  tolerance := byteAt p (k + 4)
  speed := byteAt p (k + 5)
  inrush := byteAt p (k + 6)
  run := byteAt p (k + 7)
  inrushDuration := byteAt p (k + 8)
  zone := byteAt p (k + 9)
  lamp := byteAt p (k + 10)

/-- A group record's bytes up to the member count (section 8.5, R174). -/
def GroupWire.headBytes (w : GroupWire) : List Byte :=
  [byteOf w.bearing, flagsByte [w.chained, w.firstDrop]] ++ be16 w.gustLimit ++ be16 w.meanLimit ++ be16 w.leeGrace
    ++ [byteOf w.members.length]

/-- A group record's bytes (section 8.5). -/
def GroupWire.bytes (w : GroupWire) : List Byte := w.headBytes ++ w.members.map byteOf

/-- The group record from offset `k`, its members the given bytes. -/
def groupWireAt (p : List Byte) (k : Nat) (members : List Byte) : GroupWire where
  bearing := byteAt p k
  chained := flagAt p (k + 1) 0
  firstDrop := flagAt p (k + 1) 1
  gustLimit := wordAt p (k + 2)
  meanLimit := wordAt p (k + 4)
  leeGrace := wordAt p (k + 6)
  members := members.map (·.toNat)

/-- The 45 bytes of the site record (R159). -/
def SiteWire.bytes (w : SiteWire) : List Byte :=
  be16 w.factorK ++ [byteOf w.leeMargin] ++ be16 w.calmHold ++ [byteOf w.rainMask] ++ be16 w.shortLevel
    ++ be16 w.wetLevel ++ be16 w.openLevel ++ [byteOf w.rainConfirm] ++ be16 w.dryConfirm ++ be16 w.forecastMargin
    ++ [byteOf w.retryLimit] ++ be16 w.retryDelay ++ be16 w.manualAllowance ++ be16 w.budget ++ be16 w.derateStart
    ++ be16 w.cutoffVoltage ++ [byteOf w.warningInterval, flagsByte [w.failClosed, w.soundMoving]]
    ++ w.tones.toList.map byteOf ++ w.cadences.toList.map byteOf
    ++ [byteOf w.rainLamp, byteOf w.windLamp, byteOf w.faultLamp, byteOf w.supplyLamp, byteOf w.replyTimeout]
    ++ be16 w.alertMask

/-- The site record in 45 bytes (R159). -/
def siteWireOf (p : List Byte) : SiteWire where
  factorK := wordAt p 0
  leeMargin := byteAt p 2
  calmHold := wordAt p 3
  rainMask := byteAt p 5
  shortLevel := wordAt p 6
  wetLevel := wordAt p 8
  openLevel := wordAt p 10
  rainConfirm := byteAt p 12
  dryConfirm := wordAt p 13
  forecastMargin := wordAt p 15
  retryLimit := byteAt p 17
  retryDelay := wordAt p 18
  manualAllowance := wordAt p 20
  budget := wordAt p 22
  derateStart := wordAt p 24
  cutoffVoltage := wordAt p 26
  warningInterval := byteAt p 28
  failClosed := flagAt p 29 0
  soundMoving := flagAt p 29 1
  tones := #v[byteAt p 30, byteAt p 31, byteAt p 32, byteAt p 33]
  cadences := #v[byteAt p 34, byteAt p 35, byteAt p 36, byteAt p 37]
  rainLamp := byteAt p 38
  windLamp := byteAt p 39
  faultLamp := byteAt p 40
  supplyLamp := byteAt p 41
  replyTimeout := byteAt p 42
  alertMask := wordAt p 43

/-! ## Requests (section 8.5) -/

/-- The type of a request (section 8.5). -/
def Request.typeCode : Request → Nat
  | .statusRead => 0x01
  | .openingRead _ => 0x02
  | .openingWrite _ _ => 0x03
  | .groupRead _ _ => 0x04
  | .groupWrite _ _ => 0x05
  | .groupApply _ => 0x06
  | .siteRead => 0x07
  | .siteWrite _ => 0x08
  | .move _ _ => 0x09
  | .groupClose _ => 0x0A
  | .cancel _ => 0x0B
  | .stop _ => 0x0C
  | .hold _ _ => 0x0D
  | .forecast _ _ _ _ _ => 0x0E
  | .forecastWithdraw _ => 0x0F
  | .jobsRead _ => 0x10
  | .weatherRead _ => 0x11
  | .nodeRead _ => 0x12
  | .countersReadClear => 0x13
  | .alertsAck _ => 0x14
  | .storeSave => 0x15
  | .storeErase => 0x16
  | .storeLock _ => 0x17
  | .restart => 0x18

/-- The payload of a request (section 8.5). -/
def Request.payload : Request → List Byte
  | .statusRead | .siteRead | .countersReadClear | .storeSave | .storeErase | .storeLock _ | .restart => []
  | .openingRead n | .groupApply n | .groupClose n | .cancel n | .stop n | .forecastWithdraw n | .jobsRead n
  | .weatherRead n | .nodeRead n => [byteOf n]
  | .openingWrite n w => byteOf n :: w.bytes
  | .groupRead g c => [byteOf g, byteOf c]
  | .groupWrite g w => byteOf g :: w.bytes
  | .siteWrite w => w.bytes
  | .move n t => byteOf n :: be16 t
  | .hold n m => [byteOf n, byteOf m]
  | .forecast t o d g m => [byteOf t] ++ be16 o ++ be16 d ++ be16 g ++ [byteOf m]
  | .alertsAck f => be16 f

/-- Why a frame's type and payload form no request (R155). -/
inductive DecodeFailure where
  | unknownType
  | badLength
  deriving DecidableEq, Repr

/-- A request of a fixed payload size (section 8.5). -/
def ofSize (n : Nat) (p : List Byte) (r : Request) : Except DecodeFailure Request :=
  if p.length = n then .ok r else .error .badLength

/-- The request a type and payload form (R155, section 8.5). `verifies` is the store's answer to a STORE-LOCK. -/
def decodeRequest (verifies : Bool) (type : Nat) (p : List Byte) : Except DecodeFailure Request :=
  match type with
  | 0x01 => ofSize 0 p .statusRead
  | 0x02 => ofSize 1 p (.openingRead (byteAt p 0))
  | 0x03 => ofSize 12 p (.openingWrite (byteAt p 0) (openingWireAt p 1))
  | 0x04 => ofSize 2 p (.groupRead (byteAt p 0) (byteAt p 1))
  | 0x05 =>
    if 10 ≤ p.length && p.length = 10 + byteAt p 9 then .ok (.groupWrite (byteAt p 0) (groupWireAt p 1 (p.drop 10)))
    else .error .badLength
  | 0x06 => ofSize 1 p (.groupApply (byteAt p 0))
  | 0x07 => ofSize 0 p .siteRead
  | 0x08 => ofSize 45 p (.siteWrite (siteWireOf p))
  | 0x09 => ofSize 3 p (.move (byteAt p 0) (wordAt p 1))
  | 0x0A => ofSize 1 p (.groupClose (byteAt p 0))
  | 0x0B => ofSize 1 p (.cancel (byteAt p 0))
  | 0x0C => ofSize 1 p (.stop (byteAt p 0))
  | 0x0D => ofSize 2 p (.hold (byteAt p 0) (byteAt p 1))
  | 0x0E => ofSize 8 p (.forecast (byteAt p 0) (wordAt p 1) (wordAt p 3) (wordAt p 5) (byteAt p 7))
  | 0x0F => ofSize 1 p (.forecastWithdraw (byteAt p 0))
  | 0x10 => ofSize 1 p (.jobsRead (byteAt p 0))
  | 0x11 => ofSize 1 p (.weatherRead (byteAt p 0))
  | 0x12 => ofSize 1 p (.nodeRead (byteAt p 0))
  | 0x13 => ofSize 0 p .countersReadClear
  | 0x14 => ofSize 2 p (.alertsAck (wordAt p 0))
  | 0x15 => ofSize 0 p .storeSave
  | 0x16 => ofSize 0 p .storeErase
  | 0x17 => ofSize 0 p (.storeLock verifies)
  | 0x18 => ofSize 0 p .restart
  | _ => .error .unknownType

/-- The frame of a record: start byte, length, type, tag, payload and check (R151, R152). -/
def frameBytes (type tag : Nat) (payload : List Byte) : List Byte :=
  let covered := byteOf (payload.length + 2) :: byteOf type :: byteOf tag :: payload
  0x5B#8 :: (covered ++ crc16Bytes covered)

end Sys2Proof
end

