-- ==== Sys2Proof/Config.lean ====
section
/-! DEFINITION. The values the manual leaves open: constants without a body, so that no statement can rest on a choice.
Each is applied to the count of free values drawn so far (State.freeUses). -/

namespace Sys2Proof.Config

/-- The position read from a STATUS whose high part is above 15 (R110 gives the part 0 to 15 and is silent above it;
log 15). Used modulo 4096. -/
opaque freePosition : Nat → Nat

/-- The travel read from an IDENT whose high part is above 15 (R110; log 15). Brought into 16 to 4095 by its user. -/
opaque freeTravel : Nat → Nat

/-- Whether the lock byte verifies when STORE-LOCK arrives as a host frame (R176; log 16). -/
opaque freeLockVerifies : Nat → Bool

/-- What the lock byte holds after a failed verify, as far as R176 leaves it open (log 16). -/
opaque freeLockResidue : Nat → Byte

end Sys2Proof.Config
end

