-- ==== Sys2Proof/Machine/State.lean ====
section
/-! DEFINITION. The state of the CL-48 as plain data: everything the manual's blocks own (section 0.5), the queue of
commands, and the reset values each chapter gives. What can be computed from a field is a view in Machine/Ops.lean. -/

namespace Sys2Proof.Machine

/-! ## Configured records -/

/-- The four sounder tones (R93). -/
inductive Tone where
  | hz512 | hz1024 | hz2048 | hz4096
  deriving DecidableEq, Repr

/-- The two cadences (R93, R99). -/
inductive Cadence where
  | continuous | pulsed
  deriving DecidableEq, Repr

/-- The site record (R159), each field specified by the rule of its owner. -/
structure SiteRecord where
  factorK         : Nat
  leeMargin       : Nat
  calmHold        : Nat
  rainMask        : BitVec 4
  shortLevel      : Nat
  wetLevel        : Nat
  openLevel       : Nat
  rainConfirm     : Nat
  dryConfirm      : Nat
  forecastMargin  : Nat
  retryLimit      : Nat
  retryDelay      : Nat
  manualAllowance : Nat
  budget          : Nat
  derateStart     : Nat
  cutoffVoltage   : Nat
  warningInterval : Nat
  failClosed      : Bool
  soundMoving     : Bool
  tones           : Vector Tone 4
  cadences        : Vector Cadence 4
  rainLamp        : Option Nat
  windLamp        : Option Nat
  faultLamp       : Option Nat
  supplyLamp      : Option Nat
  replyTimeout    : Nat
  alertMask       : BitVec 11
  deriving DecidableEq, Repr

/-- The default site record: R25, R53, R79, R93, R113, R168. -/
def defaultSite : SiteRecord where
  factorK := 256
  leeMargin := 20
  calmHold := 600
  rainMask := 0
  shortLevel := 20
  wetLevel := 600
  openLevel := 1000
  rainConfirm := 10
  dryConfirm := 900
  forecastMargin := 300
  retryLimit := 2
  retryDelay := 30
  manualAllowance := 120
  budget := 100
  derateStart := 220
  cutoffVoltage := 190
  warningInterval := 5
  failClosed := false
  soundMoving := false
  tones := Vector.replicate 4 .hz2048
  cadences := Vector.replicate 4 .pulsed
  rainLamp := none
  windLamp := none
  faultLamp := none
  supplyLamp := none
  replyTimeout := 40
  alertMask := 0

/-- The configured fields of an opening (R1). -/
structure OpeningCfg where
  enabled        : Bool
  address        : Nat
  travel         : Nat
  tolerance      : Nat
  speed          : Nat
  inrush         : Nat
  run            : Nat
  inrushDuration : Nat
  reachable      : Bool
  zone           : Option Nat
  lamp           : Option Nat
  deriving DecidableEq, Repr

/-- The default record of opening `i` (R2). -/
def defaultCfg (i : Nat) : OpeningCfg where
  enabled := false
  address := i + 1
  travel := 4095
  tolerance := 8
  speed := 40
  inrush := 20
  run := 10
  inrushDuration := 5
  reachable := false
  zone := none
  lamp := none

/-- The 48 default records (R2). -/
def defaultCfgs : Vector OpeningCfg 48 :=
  ⟨⟨(List.range 48).map defaultCfg⟩, by simp⟩

/-- A group's bearing: a sector 0 to 7, or ROOF (R14). -/
inductive Bearing where
  | sector (n : Nat)
  | roof
  deriving DecidableEq, Repr

/-- One copy of a group record (R14). -/
structure GroupRecord where
  bearing   : Bearing
  chained   : Bool
  members   : List Nat
  gustLimit : Nat
  meanLimit : Nat
  leeGrace  : Nat
  firstDrop : Bool
  deriving DecidableEq, Repr

/-- The default group record (R14). -/
def defaultGroup : GroupRecord where
  bearing := .sector 0
  chained := false
  members := []
  gustLimit := 600
  meanLimit := 600
  leeGrace := 0
  firstDrop := false

/-- What a group holds (R14): the record in force, the record last written, and whether an apply waits. -/
structure Group where
  active         : GroupRecord
  pendingCopy    : GroupRecord
  applyRequested : Bool
  deriving DecidableEq, Repr

/-- A group after a reset without a valid image (R14). -/
def resetGroup : Group := ⟨defaultGroup, defaultGroup, false⟩

/-! ## Live fields of an opening -/

inductive Motion where
  | stopped | opening | closing
  deriving DecidableEq, Repr

/-- A set of node faults (R3, R110). -/
structure NodeFaults where
  edge      : Bool
  stall     : Bool
  overtemp  : Bool
  lowSupply : Bool
  deriving DecidableEq, Repr

/-- The empty set of node faults. -/
def noFaults : NodeFaults := ⟨false, false, false, false⟩

/-- How a job ended; NONE before any has (R3, R12). -/
inductive JobOutcome where
  | none | done | failedObstructed | failedTimeout | failedNodeLost | cancelled | halted
  deriving DecidableEq, Repr

/-- The live fields of an opening (R3). Held until is a view of the held list (R13). -/
structure OpeningLive where
  position       : Option Nat
  stale          : Bool
  motion         : Motion
  faults         : NodeFaults
  reportedTravel : Option Nat
  failed         : Bool
  lastOutcome    : JobOutcome
  lastAnnounced  : Option Nat
  deriving DecidableEq, Repr

/-- The live fields after every kind of reset (R3); position `none` is UNKNOWN. -/
def resetLive : OpeningLive where
  position := none
  stale := false
  motion := .stopped
  faults := noFaults
  reportedTravel := none
  failed := false
  lastOutcome := .none
  lastAnnounced := none

/-! ## Weather Monitor -/

inductive RainClass where
  | short | open | wet | dry
  deriving DecidableEq, Repr

inductive RainState where
  | dry | wetting | wet | drying | fault
  deriving DecidableEq, Repr

/-- A rain input with its sensor record (R33, R34). -/
structure RainSensor where
  level   : Nat
  kind    : RainClass
  state   : RainState
  since   : Option Nat
  outRun  : Nat
  inRun   : Nat
  deriving DecidableEq, Repr

/-- A rain input after every kind of reset (R33, R34). -/
def resetRain : RainSensor := ⟨0, .short, .dry, none, 0, 0⟩

/-- An entry of the forecast list (R38). -/
structure Forecast where
  ftag         : Nat
  onsetAt      : Nat
  endsAt       : Nat
  gust         : Nat
  mask         : BitVec 8
  leadDeadline : Nat
  deriving DecidableEq, Repr

inductive GroupStatus where
  | exposed | windward | lee
  deriving DecidableEq, Repr

/-- What the last sample decided for a group (R31, R32). -/
structure GroupSample where
  status  : GroupStatus
  effGust : Nat
  effMean : Nat
  deriving DecidableEq, Repr

/-- The Weather Monitor but for the threat records. The ring is oldest first (R27). -/
structure Weather where
  pulses      : Nat
  ring        : List Nat
  direction   : Option Nat
  disagree    : Nat
  rain        : Vector RainSensor 4
  rainPresent : Bool
  firstDrop   : Bool
  rainUnknown : Bool
  sensorFault : Bool
  forecasts   : List Forecast
  samples     : Vector (Option GroupSample) 8
  deriving DecidableEq, Repr

/-- The Weather Monitor after every kind of reset (R26, R27, R30, R34, R37, R38). -/
def resetWeather : Weather where
  pulses := 0
  ring := []
  direction := none
  disagree := 0
  rain := Vector.replicate 4 resetRain
  rainPresent := false
  firstDrop := false
  rainUnknown := false
  sensorFault := false
  forecasts := []
  samples := Vector.replicate 8 none

/-- A group's threat record (R40). A source is active while its deadline is present; rank, deadline and level follow. -/
structure Threat where
  wind         : Option Nat
  rain         : Option Nat
  forecast     : Option Nat
  calmSince    : Option Nat
  episodeStart : Option Nat
  deriving DecidableEq, Repr

/-- The reset state of a threat record (R40). -/
def resetThreat : Threat := ⟨none, none, none, none, none⟩

/-! ## Closure Scheduler -/

inductive Rank where
  | wind | rain | forecast | manual
  deriving DecidableEq, Repr

inductive AfterStop where
  | requeueClose | cancelled | halted | failedTimeout
  deriving DecidableEq, Repr

/-- The state of a job with what is present only in it: after-stop in STOPPING, retry at in RETRY_WAIT (R50). -/
inductive JobState where
  | queued
  | announcing
  | dispatching
  | running
  | stopping (after : AfterStop)
  | retryWait (retryAt : Nat)
  deriving DecidableEq, Repr

/-- A job (R50). Key and halt pending are views. -/
structure Job where
  opening   : Nat
  target    : Nat
  rank      : Rank
  deadline  : Nat
  estimate  : Nat
  state     : JobState
  retries   : Nat
  missed    : Bool
  startedAt : Option Nat
  tag       : Option Nat
  cause     : Option NodeFaults
  deriving DecidableEq, Repr

/-- An entry of the held list (R76). -/
structure HeldEntry where
  opening : Nat
  expires : Nat
  deriving DecidableEq, Repr

/-! ## Supply Budget Unit -/

/-- The unit's readings and cutoff state (R80, R82). The ring is oldest first. -/
structure Supply where
  ring   : List Nat
  cutoff : Bool
  lowRun : Nat
  deriving DecidableEq, Repr

/-- The phase of a reservation with the expiry that is present in it (R87). -/
inductive ResPhase where
  | inrushWait
  | inrush (expiry : Nat)
  | run
  | residual (expiry : Nat)
  deriving DecidableEq, Repr

/-- An entry of the reservation table (R87). -/
structure Reservation where
  opening : Nat
  amount  : Nat
  phase   : ResPhase
  marked  : Bool
  deriving DecidableEq, Repr

/-! ## Warning Outputs -/

/-- An entry of the warning table (R95). -/
structure WarnEntry where
  opening : Nat
  zone    : Nat
  endsAt  : Nat
  deriving DecidableEq, Repr

/-- A sounder zone (R98) and the tone its line carries since the last edge of the selected divider (R94). -/
structure Zone where
  sounding : Bool
  phaseOn  : Bool
  count    : Nat
  lineTone : Tone
  deriving DecidableEq, Repr

/-- A zone after every kind of reset (R98). -/
def resetZone : Zone := ⟨false, false, 0, .hz2048⟩

inductive LampState where
  | off | on | slow | fast
  deriving DecidableEq, Repr

/-- The present panel frame: its 64 lamp states, the two blink phases at its start (R102, R105), and the crystal cycles
since its start, which place the scan (R101, log 27). -/
structure Panel where
  lamps   : Vector LampState 64
  slowLit : Bool
  fastLit : Bool
  cycles  : Nat
  deriving DecidableEq, Repr

/-- The panel before the first frame (R106). -/
def resetPanel : Panel := ⟨Vector.replicate 64 .off, true, true, 0⟩

/-! ## Actuator Line Controller -/

/-- A request on the actuator line (R109, R119): node address, opening, and a DRIVE's target. -/
inductive LineRequest where
  | poll  (address opening : Nat)
  | drive (address opening target : Nat)
  | halt  (address opening : Nat)
  | ident (address opening : Nat)
  | haltAll
  deriving DecidableEq, Repr

inductive FailureKind where
  | parity | framing | overrun | check | mismatch | timeout | waitExhausted
  deriving DecidableEq, Repr

/-- Where an in-flight request stands: its frame is being sent; the reply window is open; a WAIT is being waited out
(R115); a failed attempt waits for its next (R116). -/
inductive Stage where
  | sending | window | resendDelay | nextAttempt
  deriving DecidableEq, Repr

/-- The request in flight (R112 to R116). `detached`: its opening was disabled or readdressed meanwhile (R9, R117). -/
structure Flight where
  request  : LineRequest
  seq      : Nat
  attempt  : Nat
  resends  : Nat
  stage    : Stage
  detached : Bool
  deriving DecidableEq, Repr

/-- A last-failure capture (R118); each character is its address mark and value. -/
structure Capture where
  kind     : FailureKind
  time     : Nat
  received : Nat
  chars    : List (Bool × Byte)
  deriving DecidableEq, Repr

/-- Service handover state (R127); the guard timer runs in GUARD and SVCGNT is asserted in GRANTED. -/
inductive Handover where
  | line | deferred | draining | granted | guarding
  deriving DecidableEq, Repr

/-- The Actuator Line Controller (R119, R132). `captures` is indexed by node address. `newHalts` holds the halts that
became pending in the present event, by opening number; between events it is empty (R122, log 23). -/
structure Line where
  queue        : List LineRequest
  flight       : Option Flight
  replyBuf     : List (Bool × Byte)
  replyTimer   : Option Nat
  quiet        : Bool
  pendingHalts : List Nat
  newHalts     : List Nat
  seq          : Nat
  captures     : Vector (Option Capture) 63
  handover     : Handover
  deriving DecidableEq, Repr

/-- The controller after every kind of reset (R132). -/
def resetLine : Line where
  queue := []
  flight := none
  replyBuf := []
  replyTimer := none
  quiet := false
  pendingHalts := []
  newHalts := []
  seq := 0
  captures := Vector.replicate 63 none
  handover := .line

/-! ## Node Supervisor -/

inductive Presence where
  | hunt | probation | present
  deriving DecidableEq, Repr

/-- A node record (R134). -/
structure NodeRecord where
  presence     : Presence
  success      : Nat
  failure      : Nat
  dueAt        : Nat
  owed         : Bool
  coverageOwed : Bool
  lastCurrent  : Option Nat
  deriving DecidableEq, Repr

/-- A node record that starts afresh with the given due time (R134). -/
def freshNode (due : Nat) : NodeRecord := ⟨.hunt, 0, 0, due, false, false, none⟩

/-! ## Host Link -/

/-- Result codes (R158). -/
inductive ResultCode where
  | ok | clamped | accepted | badLength | badValue | unknownType | noSuchOpening | noSuchGroup | noSuchTag | noJob
  | busy | weatherLock | chainBusy | notCancellable | tooLate | full | held | notPresent | conflict | locked | noImage
  deriving DecidableEq, Repr

inductive StartCause where
  | power | pin | restart
  deriving DecidableEq, Repr

inductive StoreOp where
  | save | erase
  deriving DecidableEq, Repr

inductive StoreOutcome where
  | ok | eraseFail | programFail
  deriving DecidableEq, Repr

/-- The level of a threat record (R40). -/
inductive ThreatLevel where
  | none | forecast | rain | wind
  deriving DecidableEq, Repr

/-- The source set of a threat record as a notice carries it (R46, R157). -/
structure SourceSet where
  wind     : Bool
  rain     : Bool
  forecast : Bool
  deriving DecidableEq, Repr

/-- The eleven alert flags, in the order of their numbers (chapter 9). -/
inductive AlertFlag where
  | nodeLost | obstruction | jobFailed | deadlineMissed | configMismatch | storeFault | supplyLow | vaneUnknown
  | rainSensorFault | storeInvalid | serviceActive
  deriving DecidableEq, Repr

/-- The notices (R157). -/
inductive Notice where
  | started (cause : StartCause)
  | threatChange (group : Nat) (level : ThreatLevel) (sources : SourceSet) (deadline episodeStart : Option Nat)
  | jobOutcome (opening : Nat) (outcome : JobOutcome) (target : Nat) (rank : Rank) (retries : Nat) (missed : Bool)
      (tag : Option Nat) (cause : Option NodeFaults)
  | alertRaised (flag : AlertFlag) (opening : Option Nat)
  | applyDone (group : Nat) (code : ResultCode)
  | storeDone (op : StoreOp) (outcome : StoreOutcome)
  deriving DecidableEq, Repr

/-- A reply record: its type, tag and result code, and the data after the code (R155, section 8.5). -/
structure Reply where
  type : Nat
  tag  : Nat
  code : ResultCode
  data : List Byte
  deriving DecidableEq, Repr

/-- The record being sent (R156). -/
inductive Sending where
  | reply (r : Reply)
  | notice (n : Notice)
  deriving DecidableEq, Repr

/-- A received frame: type, tag and payload (R151). -/
structure HostFrame where
  type    : Nat
  tag     : Nat
  payload : List Byte
  deriving DecidableEq, Repr

/-- The receiver (R153). `body n bytes`: the length byte was n, and `bytes` have arrived after it, in order. -/
inductive Receiver where
  | hunt
  | length
  | body (n : Nat) (bytes : List Byte)
  deriving DecidableEq, Repr

/-- The Host Link (R150). -/
structure HostLink where
  rx      : Receiver
  current : Option HostFrame
  reply   : Option Reply
  notices : List Notice
  sending : Option Sending
  deriving DecidableEq, Repr

/-- The Host Link after every kind of reset (R150). -/
def resetHost : HostLink := ⟨.hunt, none, none, [], none⟩

/-- The eighteen counters, in the order of R164. -/
inductive Counter where
  | parity | framing | overrun | check | mismatch | timeout | waitExhausted
  | hostCrc | hostOverrun | hostFrameTimeout | noticesDropped
  | jobsDone | jobsFailed | jobsCancelled | deadlinesMissed | obstructions | vaneDisagree | cutoffs
  deriving DecidableEq, Repr

/-! ## Settings Store -/

/-- The store state (R174), with the operation and the sector under way. -/
inductive StoreState where
  | idle
  | erasing (op : StoreOp) (sector : Nat)
  | programming (sector : Nat)
  deriving DecidableEq, Repr

/-- The configuration as the image holds it (R174). -/
structure ConfigCopy where
  site    : SiteRecord
  cfgs    : Vector OpeningCfg 48
  actives : Vector GroupRecord 8
  deriving DecidableEq, Repr

/-- The Settings Store (R174, R175). -/
structure Store where
  state : StoreState
  valid : Bool
  lock  : Bool
  copy  : Option ConfigCopy
  deriving DecidableEq, Repr

/-- The store at the start of a load: IDLE (R174). The image valid flag and the store lock are set at the load; that both
are clear until then is the model's choice (log 50, DESIGN CHOICE). -/
def resetStore : Store := ⟨.idle, false, false, none⟩

/-- The nonvolatile image of eight sectors of 256 bytes (R174). `cells` lists the bytes that are not erased, addresses
rising; an unlisted byte reads FFh. `unsettled` lists the sectors left partly erased or programmed (R175). -/
structure Image where
  cells     : List Host.Cell
  unsettled : List Nat
  deriving DecidableEq, Repr

/-! ## Time Base -/

/-- The events that advances of the tenths count have delivered and their blocks have not yet taken, counted for each of
the five (R171, log 5): the 100 ms events of the Supply Budget Unit, Warning Outputs and the Node Supervisor, and the
1 s events of the Weather Monitor and the Closure Scheduler. `turned` lists the zones whose turnover a CADENCE_TURNOVER
has taken out of the 100 ms event next in turn (log 7). -/
structure Due where
  supply      : Nat
  warnings    : Nat
  nodes       : Nat
  sample      : Nat
  supervision : Nat
  turned      : List Nat
  deriving DecidableEq, Repr

/-- No event is delivered between the start of a reset and the first advance after its load (R171). -/
def nothingDue : Due := ⟨0, 0, 0, 0, 0, []⟩

/-! ## The machine -/

/-- Where the part stands in its resets (R172, R173). -/
inductive Phase where
  /-- the logic supply is below its threshold -/
  | unpowered
  /-- step 1 of a power-on reset -/
  | crystalWait
  /-- step 3 of a power-on reset: NRESET was low at the end of the wait -/
  | heldPower
  /-- NRESET holds a pin reset -/
  | heldPin
  /-- step 5: the image load is under way -/
  | loading
  /-- the load has completed -/
  | running
  deriving DecidableEq, Repr

/-- The whole machine. INVENTORY.md names the rule of every field. -/
structure State where
  pending        : List Instr
  phase          : Phase
  cause          : StartCause
  nreset         : Bool
  svcreq         : Bool
  tenths         : Nat
  divider        : Nat
  due            : Due
  site           : SiteRecord
  cfgs           : Vector OpeningCfg 48
  lives          : Vector OpeningLive 48
  groups         : Vector Group 8
  threats        : Vector Threat 8
  weather        : Weather
  jobs           : List Job
  held           : List HeldEntry
  supply         : Supply
  reserv         : List Reservation
  warnings       : List WarnEntry
  zones          : Vector Zone 4
  panel          : Panel
  line           : Line
  nodes          : Vector NodeRecord 48
  countingPaused : Bool
  host           : HostLink
  alerts         : BitVec 11
  counters       : Vector Nat 18
  store          : Store
  image          : Image
  walkDue        : Bool
  freeUses       : Nat
  deriving DecidableEq, Repr

/-- Why the machine stops with a fault: never. The manual gives the part no state in which it stops, and every command
has its effect in every state; so this type has no constructor. Safe: it leaves nothing out. -/
inductive Fault where
  deriving DecidableEq, Repr

/-- Why a command is refused. -/
inductive Refusal where
  /-- Raised only by an arm of `exec` whose command has no meaning yet (there is none). Safe: nothing can be proved of
  what such a command does. -/
  | notModelled (mnemonic : String)
  deriving DecidableEq, Repr

/-- The machine right after the step "Clear" of a power-on reset (R172): every block at the reset values of its chapter,
the counts 0, the image load under way, nothing in the queue. The image is erased and the two input pins inactive
(log 1, log 2: DESIGN CHOICE); image valid, the store lock and the nodes' due times, which the load sets, are no, clear and
0 until then (log 50: DESIGN CHOICE). -/
def State.reset : State where
  pending := []
  phase := .loading
  cause := .power
  nreset := true
  svcreq := false
  tenths := 0
  divider := 0
  due := nothingDue
  site := defaultSite
  cfgs := defaultCfgs
  lives := Vector.replicate 48 resetLive
  groups := Vector.replicate 8 resetGroup
  threats := Vector.replicate 8 resetThreat
  weather := resetWeather
  jobs := []
  held := []
  supply := ⟨[], false, 0⟩
  reserv := []
  warnings := []
  zones := Vector.replicate 4 resetZone
  panel := resetPanel
  line := resetLine
  nodes := Vector.replicate 48 (freshNode 0)
  countingPaused := false
  host := resetHost
  alerts := 0
  counters := Vector.replicate 18 0
  store := resetStore
  image := ⟨[], []⟩
  walkDue := false
  freeUses := 0

end Sys2Proof.Machine
end

