-- ==== Sys2Proof/Machine/Ops.lean ====
section
/-! DEFINITION. The named reads and updates of the tables, the views that other blocks read (R4, R13, R19, R22, R28,
R40, R52, R80, R81), and the notice and queue operations that many rules share. -/

namespace Sys2Proof.Machine

/-! ## Reading and updating the tables -/

/-- The seconds count T (R171). -/
def State.T (s : State) : Nat := s.tenths / 10

/-- The configured fields of opening `i` (R1). -/
def State.cfg (s : State) (i : Nat) : OpeningCfg := s.cfgs[i]?.getD (defaultCfg i)

/-- The live fields of opening `i` (R3). -/
def State.live (s : State) (i : Nat) : OpeningLive := s.lives[i]?.getD resetLive

/-- Replace the live fields of opening `i` by a function of them. -/
def State.modLive (i : Nat) (f : OpeningLive → OpeningLive) (s : State) : State :=
  { s with lives := s.lives.setIfInBounds i (f (s.live i)) }

/-- The node record of opening `i` (R134). -/
def State.node (s : State) (i : Nat) : NodeRecord := s.nodes[i]?.getD (freshNode 0)

/-- Replace the node record of opening `i` by a function of it. -/
def State.modNode (i : Nat) (f : NodeRecord → NodeRecord) (s : State) : State :=
  { s with nodes := s.nodes.setIfInBounds i (f (s.node i)) }

/-- Group `g` (R14). -/
def State.group (s : State) (g : Nat) : Group := s.groups[g]?.getD resetGroup

/-- Replace group `g`. -/
def State.setGroup (g : Nat) (x : Group) (s : State) : State := { s with groups := s.groups.setIfInBounds g x }

/-- The threat record of group `g` (R40). -/
def State.threat (s : State) (g : Nat) : Threat := s.threats[g]?.getD resetThreat

/-- Replace the threat record of group `g`. -/
def State.setThreat (g : Nat) (x : Threat) (s : State) : State := { s with threats := s.threats.setIfInBounds g x }

/-- A trigger of the walk has occurred in this event (R58). -/
def State.triggerWalk (s : State) : State := { s with walkDue := true }

/-! ## Views of an opening (R4, R13, R22) -/

/-- The effective travel (R4). -/
def State.effTravel (s : State) (i : Nat) : Nat :=
  match (s.live i).reportedTravel with
  | none => (s.cfg i).travel
  | some t => min (s.cfg i).travel t

/-- The closed test on a configured and a live record (R4). -/
def isClosed (c : OpeningCfg) (l : OpeningLive) : Bool :=
  match l.position with
  | none => false
  | some p => !l.stale && p ≤ c.tolerance

/-- The opening is closed (R4). -/
def State.closed (s : State) (i : Nat) : Bool := isClosed (s.cfg i) (s.live i)

/-- The target is more open than the opening's position (R4). -/
def State.moreOpen (s : State) (i target : Nat) : Bool :=
  match (s.live i).position with
  | none => 0 < target
  | some p => p < target

/-- The expiry of the opening's hold, if it is held (R13). -/
def State.heldUntil (s : State) (i : Nat) : Option Nat := (s.held.find? (·.opening == i)).map (·.expires)

/-- The opening is on the held list (R76). -/
def State.isHeld (s : State) (i : Nat) : Bool := s.held.any (·.opening == i)

/-- The group of which the opening is an active member: at most one (R14). -/
def State.groupOf (s : State) (i : Nat) : Option Nat :=
  (List.range 8).find? fun g => (s.group g).active.members.contains i

/-- The predecessor is satisfied: disabled or closed (R22). -/
def State.satisfied (s : State) (i : Nat) : Bool := !(s.cfg i).enabled || s.closed i

/-- The opening is chain-ready (R22). -/
def State.chainReady (s : State) (i : Nat) : Bool :=
  match s.groupOf i with
  | none => true
  | some g =>
    let r := (s.group g).active
    !r.chained || (r.members.takeWhile (· != i)).all s.satisfied

/-! ## Views of a threat record (R40) -/

/-- No source is active. -/
def Threat.isEmpty (t : Threat) : Bool := t.wind.isNone && t.rain.isNone && t.forecast.isNone

/-- The rank, when a source is active (R40). -/
def Threat.rank (t : Threat) : Option Rank :=
  if t.wind.isSome then some .wind
  else if t.rain.isSome then some .rain
  else if t.forecast.isSome then some .forecast
  else none

/-- The earlier of two optional times. -/
def earliest : Option Nat → Option Nat → Option Nat
  | none, b => b
  | some a, none => some a
  | some a, some b => some (min a b)

/-- The earliest of the deadlines present (R40). -/
def Threat.deadline (t : Threat) : Option Nat := earliest (earliest t.wind t.rain) t.forecast

/-- The level (R40). -/
def Threat.level (t : Threat) : ThreatLevel :=
  if t.wind.isSome then .wind
  else if t.rain.isSome then .rain
  else if t.forecast.isSome then .forecast
  else .none

/-- The source set (R40). -/
def Threat.sources (t : Threat) : SourceSet := ⟨t.wind.isSome, t.rain.isSome, t.forecast.isSome⟩

/-- Some group has WIND or RAIN in its source set (R48). -/
def State.windOrRain (s : State) : Bool := s.threats.toList.any fun t => t.wind.isSome || t.rain.isSome

/-- The opening's group, if any, has a non-empty source set. -/
def State.threatened (s : State) (i : Nat) : Bool :=
  match s.groupOf i with
  | none => false
  | some g => !(s.threat g).isEmpty

/-! ## Views of the weather (R26 to R30) -/

/-- The speed of the last sample: 0 before the first (R26). -/
def Weather.speed (w : Weather) : Nat := w.ring.getLast?.getD 0

/-- The gust: the greatest of the three newest entries (R28). -/
def Weather.gust (w : Weather) : Nat := (w.ring.drop (w.ring.length - 3)).foldl max 0

/-- The mean of all entries, rounded down (R28). -/
def Weather.mean (w : Weather) : Nat := w.ring.sum / w.ring.length

/-- The vane fault condition (R30). -/
def Weather.vaneFault (w : Weather) : Bool := w.disagree == 4

/-! ## The job queue (R50 to R52) -/

/-- The urgency class as a number (R50). -/
def Rank.code : Rank → Nat
  | .wind => 0
  | .rain => 1
  | .forecast => 2
  | .manual => 3

/-- The more urgent of two ranks. -/
def Rank.urgent (a b : Rank) : Rank := if a.code ≤ b.code then a else b

/-- The key: deadline minus run estimate, which may be negative (R50, R52). -/
def Job.key (j : Job) : Int := (j.deadline : Int) - j.estimate

/-- Queue order: key, then rank, then opening number (R51). -/
def Job.before (a b : Job) : Bool :=
  if a.key = b.key then
    if a.rank.code = b.rank.code then a.opening < b.opening else a.rank.code < b.rank.code
  else a.key < b.key

/-- Insert a job at its place (R51). -/
def insertJob (j : Job) : List Job → List Job
  | [] => [j]
  | x :: xs => if j.before x then j :: x :: xs else x :: insertJob j xs

/-- The opening's job (R51: at most one). -/
def State.job? (s : State) (i : Nat) : Option Job := s.jobs.find? (·.opening == i)

/-- The jobs of the other openings. -/
def State.otherJobs (s : State) (i : Nat) : List Job := s.jobs.filter (·.opening != i)

/-- Put the job at its place, in place of the opening's earlier one (R51). -/
def State.putJob (j : Job) (s : State) : State := { s with jobs := insertJob j (s.otherJobs j.opening) }

/-- The run estimate of a move of opening `i` to `target`, from its record as it stands (R52). -/
def State.runEstimate (s : State) (i target : Nat) : Nat :=
  let remaining := match (s.live i).position with
    | none => s.effTravel i
    | some p => (p - target) + (target - p)
  (remaining + (s.cfg i).speed - 1) / (s.cfg i).speed + 1

/-- The job is in ANNOUNCING, DISPATCHING, RUNNING or STOPPING (R19). -/
def JobState.moving : JobState → Bool
  | .announcing | .dispatching | .running | .stopping _ => true
  | .queued | .retryWait _ => false

def JobState.isStopping : JobState → Bool
  | .stopping _ => true
  | .queued | .announcing | .dispatching | .running | .retryWait _ => false

def JobState.isRetryWait : JobState → Bool
  | .retryWait _ => true
  | .queued | .announcing | .dispatching | .running | .stopping _ => false

/-- The halt of the opening's job is pending (R50, R122). -/
def State.haltPending (s : State) (i : Nat) : Bool := s.line.pendingHalts.contains i || s.line.newHalts.contains i

/-- The group is at its quiescent point (R19). -/
def State.quiescent (s : State) (g : Nat) : Bool :=
  (s.group g).active.members.all fun i =>
    match s.job? i with
    | none => true
    | some j => !j.state.moving

/-! ## Supply (R80, R81) and reservations (R87, R89) -/

/-- The last single reading: 0 before the first (R80). -/
def Supply.last (u : Supply) : Nat := u.ring.getLast?.getD 0

/-- The averaged voltage V (R80). -/
def Supply.volts (u : Supply) : Nat := u.ring.sum / u.ring.length

/-- The effective budget of a site record at an averaged voltage (R81). -/
def effectiveBudget (r : SiteRecord) (v : Nat) : Nat :=
  if r.derateStart ≤ v then r.budget
  else if v ≤ r.cutoffVoltage then 0
  else r.budget * (v - r.cutoffVoltage) / (r.derateStart - r.cutoffVoltage)

/-- Beff (R81). -/
def State.beff (s : State) : Nat := effectiveBudget s.site s.supply.volts

/-- The reservation sum (R87). -/
def reservedSum (l : List Reservation) : Nat := (l.map (·.amount)).sum

def ResPhase.isResidual : ResPhase → Bool
  | .residual _ => true
  | .inrushWait | .inrush _ | .run => false

/-- The opening's entry (R87: at most one). -/
def State.reservation? (s : State) (i : Nat) : Option Reservation := s.reserv.find? (·.opening == i)

/-- Remove the opening's entry: a release (R89). -/
def State.dropReservation (i : Nat) (s : State) : State :=
  { s with reserv := s.reserv.filter (·.opening != i), walkDue := true }

/-- A job's path releases the opening's entry, unless it is marked or RESIDUAL (R89). -/
def State.release (i : Nat) (s : State) : State :=
  match s.reservation? i with
  | none => s
  | some r => if r.marked || r.phase.isResidual then s else s.dropReservation i

/-- Change the opening's entry in place. -/
def State.modReservation (i : Nat) (f : Reservation → Reservation) (s : State) : State :=
  { s with reserv := s.reserv.map fun r => if r.opening = i then f r else r }

/-! ## Lists kept in an order -/

/-- Insert a number into a rising list. -/
def insertNat (x : Nat) : List Nat → List Nat
  | [] => [x]
  | y :: ys => if x < y then x :: y :: ys else y :: insertNat x ys

/-- Insert a held-list entry: by expiry, then by opening number (R76). -/
def insertHeld (h : HeldEntry) : List HeldEntry → List HeldEntry
  | [] => [h]
  | x :: xs =>
    if h.expires < x.expires || (h.expires = x.expires && h.opening < x.opening) then h :: x :: xs
    else x :: insertHeld h xs

/-- Insert a warning entry by opening number (R96). -/
def insertWarning (w : WarnEntry) : List WarnEntry → List WarnEntry
  | [] => [w]
  | x :: xs => if w.opening < x.opening then w :: x :: xs else x :: insertWarning w xs

/-- Insert a forecast by tag (R39). -/
def insertForecast (f : Forecast) : List Forecast → List Forecast
  | [] => [f]
  | x :: xs => if f.ftag < x.ftag then f :: x :: xs else x :: insertForecast f xs

/-- Insert a reservation by opening number. -/
def insertReservation (r : Reservation) : List Reservation → List Reservation
  | [] => [r]
  | x :: xs => if r.opening < x.opening then r :: x :: xs else x :: insertReservation r xs

end Sys2Proof.Machine
end

