-- ==== Sys2Proof/Machine/Flags.lean ====
section
/-! DEFINITION. The eighteen counters (R169), the notice slots (R156), and the eleven alert flags (R165 to R168). -/

namespace Sys2Proof.Machine

/-- A counter's place in the order of R164. -/
def Counter.index : Counter → Nat
  | .parity => 0
  | .framing => 1
  | .overrun => 2
  | .check => 3
  | .mismatch => 4
  | .timeout => 5
  | .waitExhausted => 6
  | .hostCrc => 7
  | .hostOverrun => 8
  | .hostFrameTimeout => 9
  | .noticesDropped => 10
  | .jobsDone => 11
  | .jobsFailed => 12
  | .jobsCancelled => 13
  | .deadlinesMissed => 14
  | .obstructions => 15
  | .vaneDisagree => 16
  | .cutoffs => 17

/-- A counter's value (R169). -/
def State.counter (s : State) (c : Counter) : Nat := s.counters[c.index]?.getD 0

/-- Count one occurrence; a counter stops at 65535 (R169). -/
def State.bump (c : Counter) (s : State) : State :=
  { s with counters := s.counters.setIfInBounds c.index (min (s.counter c + 1) 65535) }

/-- Place a notice (R156). An idle transmitter begins it at once, except while a request is being taken, whose reply
goes first (R155; log 21). A notice that finds the seven slots full is dropped and counted. -/
def State.placeNotice (n : Notice) (s : State) : State :=
  if s.host.sending.isNone && s.host.current.isNone then
    { s with host := { s.host with sending := some (.notice n) } }
  else if s.host.notices.length < 7 then
    { s with host := { s.host with notices := s.host.notices ++ [n] } }
  else s.bump .noticesDropped

/-- A flag's number (chapter 9). -/
def AlertFlag.number : AlertFlag → Nat
  | .nodeLost => 0
  | .obstruction => 1
  | .jobFailed => 2
  | .deadlineMissed => 3
  | .configMismatch => 4
  | .storeFault => 5
  | .supplyLow => 6
  | .vaneUnknown => 7
  | .rainSensorFault => 8
  | .storeInvalid => 9
  | .serviceActive => 10

/-- The flag is set. -/
def State.alertSet (s : State) (f : AlertFlag) : Bool := s.alerts.getLsbD f.number

/-- An alert is reported: the flag is set, and a change from clear to set places one ALERT-RAISED (R165, R166). -/
def State.raiseAlert (f : AlertFlag) (opening : Option Nat) (s : State) : State :=
  if s.alertSet f then s
  else State.placeNotice (.alertRaised f opening) { s with alerts := s.alerts ||| BitVec.twoPow 11 f.number }

/-- The condition of a level flag has ended (R165). -/
def State.clearAlert (f : AlertFlag) (s : State) : State :=
  { s with alerts := s.alerts &&& ~~~ BitVec.twoPow 11 f.number }

/-- The six event flags, numbers 0 to 5 (chapter 9). -/
def eventFlags : BitVec 11 := 0x3F#11

/-- An acknowledgement clears the named event flags; a level flag stays as its condition has it (R167). -/
def State.acknowledge (named : Nat) (s : State) : State :=
  { s with alerts := s.alerts &&& ~~~ (BitVec.ofNat 11 named &&& eventFlags) }

/-- The ALERT output while the part runs: some set flag is unmasked (R168). -/
def State.alertAsserted (s : State) : Bool := (s.alerts &&& ~~~ s.site.alertMask) != 0

end Sys2Proof.Machine
end

