-- ==== Sys2Proof/Machine/Zones.lean ====
section
/-! DEFINITION. The warning table and the sounder zones: R95, R97, R98 and R99. -/

namespace Sys2Proof.Machine

/-- The opening of a job in RUNNING that holds zone `z` under sound while moving (R98). -/
def State.soundsInMotion (s : State) (z : Nat) (j : Job) : Bool :=
  j.state == .running && (s.cfg j.opening).enabled && (s.cfg j.opening).zone == some z

/-- The number of holders of zone `z` (R98). -/
def State.holders (s : State) (z : Nat) : Nat :=
  (s.warnings.filter (·.zone == z)).length
    + (if s.site.soundMoving then (s.jobs.filter (s.soundsInMotion z)).length else 0)

/-- A zone follows its holders (R98): it begins SOUNDING with its cadence at ON and 0 (R99), or falls SILENT. A zone that
begins SOUNDING has the site record's tone on its line at once, also where the tone was changed since the last edge of its
divider or in this very event: R93 and R94 leave that open, and it is the model's choice (log 51, DESIGN CHOICE). -/
def Zone.follow (held : Bool) (tone : Tone) (z : Zone) : Zone :=
  if held then
    if z.sounding then z else { sounding := true, phaseOn := true, count := 0, lineTone := tone }
  else if z.sounding then { z with sounding := false, phaseOn := false, count := 0 }
  else z

/-- Zone `z` (R98). -/
def State.zone (s : State) (z : Nat) : Zone := s.zones[z]?.getD resetZone

/-- The tone of zone `z` in the site record (R93). -/
def SiteRecord.tone (r : SiteRecord) (z : Nat) : Tone := r.tones[z]?.getD .hz2048

/-- The cadence of zone `z` in the site record (R93). -/
def SiteRecord.cadence (r : SiteRecord) (z : Nat) : Cadence := r.cadences[z]?.getD .pulsed

/-- What zone `z` becomes when its holders are evaluated (R98). -/
def State.followed (s : State) (z : Nat) : Zone := (s.zone z).follow (0 < s.holders z) (s.site.tone z)

/-- The holders of every zone are evaluated (R98). That this happens at each change of a holder, so that a zone which loses
its last holder and gains another within one event starts its cadence anew, is the model's choice (log 48, DESIGN
CHOICE). -/
def State.evalZones (s : State) : State :=
  { s with zones := #v[s.followed 0, s.followed 1, s.followed 2, s.followed 3] }

/-- A warning begins: its entry ends a full interval and one tenth after the present count (R95). -/
def State.beginWarning (i : Nat) (s : State) : State :=
  let entry : WarnEntry :=
    { opening := i, zone := (s.cfg i).zone.getD 0, endsAt := s.tenths + 10 * s.site.warningInterval + 1 }
  State.evalZones { s with warnings := insertWarning entry s.warnings }

/-- The opening's entry leaves the warning table, by its end (R96) or a withdrawal (R97). -/
def State.removeWarning (i : Nat) (s : State) : State :=
  State.evalZones { s with warnings := s.warnings.filter (·.opening != i) }

/-- One 100 ms event of a pulsed zone that is SOUNDING (R99). -/
def Zone.beat (z : Zone) : Zone :=
  if 4 ≤ z.count then { z with phaseOn := !z.phaseOn, count := 0 } else { z with count := z.count + 1 }

/-- The zone's cadence at a 100 ms event (R99). -/
def State.beatZone (s : State) (z : Nat) : Zone :=
  if (s.zone z).sounding && s.site.cadence z == .pulsed then (s.zone z).beat else s.zone z

/-- Every pulsed zone that is SOUNDING advances by one 100 ms event, but for those `taken` out of it (R99; log 7). -/
def State.beatZones (taken : List Nat) (s : State) : State :=
  let beat := fun z => if taken.contains z then s.zone z else s.beatZone z
  { s with zones := #v[beat 0, beat 1, beat 2, beat 3] }

/-- The output of a zone is audible (R94). -/
def Zone.audible (z : Zone) : Bool := z.sounding && z.phaseOn

end Sys2Proof.Machine
end

