-- ==== Sys2Proof/Machine/Queue.lean ====
section
/-! DEFINITION. The line request queue and the pending-halt list: R119 to R125. -/

namespace Sys2Proof.Machine

/-- The opening a request concerns (R119). -/
def LineRequest.opening? : LineRequest → Option Nat
  | .poll _ i | .drive _ i _ | .halt _ i | .ident _ i => some i
  | .haltAll => none

/-- The node address a request is sent to; HALT-ALL goes to 63 (R109). -/
def LineRequest.address : LineRequest → Nat
  | .poll a _ | .drive a _ _ | .halt a _ | .ident a _ => a
  | .haltAll => 63

def LineRequest.isDrive : LineRequest → Bool
  | .drive _ _ _ => true
  | .poll _ _ | .halt _ _ | .ident _ _ | .haltAll => false

def LineRequest.isHalt : LineRequest → Bool
  | .halt _ _ => true
  | .poll _ _ | .drive _ _ _ | .ident _ _ | .haltAll => false

def LineRequest.isPoll : LineRequest → Bool
  | .poll _ _ => true
  | .drive _ _ _ | .halt _ _ | .ident _ _ | .haltAll => false

/-- POLL or IDENT: the class of at most 4 (R119). -/
def LineRequest.isSearch : LineRequest → Bool
  | .poll _ _ | .ident _ _ => true
  | .drive _ _ _ | .halt _ _ | .haltAll => false

/-- The HALT class: HALT and HALT-ALL (R119). -/
def LineRequest.inHaltClass : LineRequest → Bool
  | .halt _ _ | .haltAll => true
  | .poll _ _ | .drive _ _ _ | .ident _ _ => false

/-- A request that may be attempted three times (R116). -/
def LineRequest.retried : LineRequest → Bool
  | .drive _ _ _ | .halt _ _ => true
  | .poll _ _ | .ident _ _ | .haltAll => false

/-- The request is a DRIVE for opening `i`. -/
def LineRequest.isDriveOf (i : Nat) (r : LineRequest) : Bool := r.isDrive && r.opening? == some i

/-- The request is a DRIVE or HALT for opening `i`. -/
def LineRequest.movesOpening (i : Nat) (r : LineRequest) : Bool := (r.isDrive || r.isHalt) && r.opening? == some i

/-- The request is a POLL or IDENT for opening `i`. -/
def LineRequest.searchesOpening (i : Nat) (r : LineRequest) : Bool := r.isSearch && r.opening? == some i

/-- Replace the line request queue. -/
def State.setQueue (q : List LineRequest) (s : State) : State := { s with line := { s.line with queue := q } }

/-- Keep only the waiting requests that satisfy a test. -/
def State.filterQueue (keep : LineRequest → Bool) (s : State) : State := s.setQueue (s.line.queue.filter keep)

/-- A DRIVE for the opening waits in the queue (R56, R120). -/
def State.driveWaits (s : State) (i : Nat) : Bool := s.line.queue.any (·.isDriveOf i)

/-- A request joins the end of the queue (R120, R121, R123). -/
def State.enqueue (r : LineRequest) (s : State) : State := s.setQueue (s.line.queue ++ [r])

/-- The number of waiting POLL and IDENT requests (R119). -/
def searchCount (q : List LineRequest) : Nat := (q.filter (·.isSearch)).length

/-- The newest POLL, and the queue without it (R121). -/
def removeNewestPoll : List LineRequest → Option (LineRequest × List LineRequest)
  | [] => none
  | r :: q =>
    match removeNewestPoll q with
    | some (p, q') => some (p, r :: q')
    | none => if r.isPoll then some (r, q) else none

/-- A HALT for the opening's node takes a place at the end of the queue; a DRIVE that waits for it is removed (R121). -/
def State.placeHalt (i : Nat) (s : State) : State :=
  s.setQueue (s.line.queue.filter (fun r => !r.isDriveOf i) ++ [.halt (s.cfg i).address i])

/-- The opening leaves the pending-halt list (R122). -/
def State.unpend (i : Nat) (s : State) : State :=
  { s with line := { s.line with
      pendingHalts := s.line.pendingHalts.filter (· != i), newHalts := s.line.newHalts.filter (· != i) } }

/-- Pending halts are placed, oldest first, while the queue has room (R122). -/
def serveHalts : List Nat → State → State
  | [], s => s
  | i :: is, s => if s.line.queue.length < 16 then serveHalts is ((s.unpend i).placeHalt i) else s

/-- A slot has been freed: the halts pending are placed in it (R122). -/
def State.slotFreed (s : State) : State := serveHalts (s.line.pendingHalts ++ s.line.newHalts) s

/-- The Node Supervisor is told that a POLL was displaced: its node is owed again (R139). -/
def State.pollDisplaced (r : LineRequest) (s : State) : State :=
  match r.opening? with
  | none => s
  | some i => s.modNode i fun n => { n with owed := true, dueAt := s.tenths }

/-- The Closure Scheduler asks for a HALT (R121): a waiting DRIVE goes; the HALT joins the queue, or displaces the
newest POLL, or becomes pending. -/
def State.requestHalt (i : Nat) (s : State) : State :=
  let q := s.line.queue.filter fun r => !r.isDriveOf i
  if q.length < 16 then s.placeHalt i
  else match removeNewestPoll q with
    | some (p, q') => State.pollDisplaced p (s.setQueue (q' ++ [.halt (s.cfg i).address i]))
    | none => { s with line := { s.line with newHalts := insertNat i (s.line.newHalts.filter (· != i)) } }

end Sys2Proof.Machine
end

