-- ==== Sys2Proof/Machine/Jobs.lean ====
section
/-! DEFINITION. What the Closure Scheduler does to jobs: coverage, escalation, conversion, the staged apply of a group
(R18 to R21), halts, the return to QUEUED, and the end of a job (R50 to R57, R65 to R70). -/

namespace Sys2Proof.Machine

/-- The change takes the job into RUNNING or into STOPPING (R140). -/
def entersMotion (old new : Job) : Bool :=
  (new.state == .running && !(old.state == .running)) || (new.state.isStopping && !old.state.isStopping)

/-- The change is a trigger of the walk (R58): the job enters QUEUED, a QUEUED job's key changes, or the job leaves
DISPATCHING. -/
def changeTriggersWalk (old new : Job) : Bool :=
  (new.state == .queued && (!(old.state == .queued) || old.key != new.key))
    || (old.state == .dispatching && !(new.state == .dispatching))

/-- The opening's node is polled for its motion within 0.5 s (R140). -/
def State.hastenPoll (i : Nat) (s : State) : State :=
  s.modNode i fun n => { n with dueAt := min n.dueAt (s.tenths + 5) }

/-- A job takes new values: it takes its place in the queue (R51); the Node Supervisor is told of its motion (R140) and
Warning Outputs of its entering or leaving RUNNING (R98); the walk is triggered as R58 gives. -/
def State.changeJob (old new : Job) (s : State) : State :=
  let s := s.putJob new
  let s := if entersMotion old new then s.hastenPoll new.opening else s
  let s := if (old.state == .running) != (new.state == .running) then s.evalZones else s
  if changeTriggersWalk old new then s.triggerWalk else s

/-- A new job enters the queue in QUEUED (R50, R52), and the walk is triggered (R58). -/
def State.createJob (i target : Nat) (rank : Rank) (deadline : Nat) (tag : Option Nat) (s : State) : State :=
  State.triggerWalk (s.putJob
    { opening := i, target := target, rank := rank, deadline := deadline, estimate := s.runEstimate i target,
      state := .queued, retries := 0, missed := false, startedAt := none, tag := tag, cause := none })

/-- The job goes to STOPPING with an after-stop path, and a halt is requested (R68). -/
def State.haltJob (old new : Job) (after : AfterStop) (s : State) : State :=
  State.requestHalt old.opening (s.changeJob old { new with state := .stopping after })

/-! ## Coverage (R54 to R56) -/

/-- The rank and deadline of the opening's group, when its source set is not empty (R54). -/
def State.threatOf (s : State) (i : Nat) : Option (Rank × Nat) :=
  match s.groupOf i with
  | none => none
  | some g =>
    match (s.threat g).rank, (s.threat g).deadline with
    | some r, some d => some (r, d)
    | _, _ => none

/-- What escalation does to a job's after-stop: CANCELLED and HALTED become REQUEUE_CLOSE (R55). -/
def AfterStop.escalated : AfterStop → AfterStop
  | .failedTimeout => .failedTimeout
  | .requeueClose | .cancelled | .halted => .requeueClose

/-- A close job is escalated; the walk runs for one in QUEUED, whether or not its rank or deadline changes (R55). -/
def State.escalate (j : Job) (rank : Rank) (deadline : Nat) (s : State) : State :=
  let new : Job :=
    { j with
      rank := j.rank.urgent rank
      deadline := min j.deadline deadline
      state := match j.state with
        | .stopping a => .stopping a.escalated
        | .queued => .queued
        | .announcing => .announcing
        | .dispatching => .dispatching
        | .running => .running
        | .retryWait t => .retryWait t }
  let s := s.changeJob j new
  if j.state = .queued then s.triggerWalk else s

/-- What conversion makes of a job, its state apart (R56, R52). -/
def State.converted (s : State) (j : Job) (rank : Rank) (deadline : Nat) : Job :=
  { j with target := 0, rank := rank, deadline := deadline, retries := 0, missed := false
           estimate := s.runEstimate j.opening 0 }

/-- The converted job goes to, or stays in, QUEUED, and the walk is triggered (R56). -/
def State.convertToQueued (j new : Job) (s : State) : State :=
  State.triggerWalk (s.changeJob j { new with state := .queued })

/-- A job with a target above 0 is converted into a close job, by its state (R56). -/
def State.convert (j : Job) (rank : Rank) (deadline : Nat) (s : State) : State :=
  let new := s.converted j rank deadline
  match j.state with
  | .queued | .retryWait _ => s.convertToQueued j new
  | .announcing => State.release j.opening (State.removeWarning j.opening (s.convertToQueued j new))
  | .dispatching =>
    if s.driveWaits j.opening then
      State.slotFreed (State.filterQueue (fun r => !r.isDriveOf j.opening)
        (State.release j.opening (s.convertToQueued j new)))
    else s.haltJob j new .requeueClose
  | .running => s.haltJob j new .requeueClose
  | .stopping a => s.changeJob j { new with state := .stopping a.escalated }

/-- The coverage check of one opening (R54), without the test for quiescence that a return to QUEUED brings. -/
def State.coverageCore (i : Nat) (s : State) : State :=
  if !(s.cfg i).enabled || s.isHeld i || (s.live i).failed then s
  else match s.threatOf i with
    | none => s
    | some (rank, deadline) =>
      match s.job? i with
      | some j => if j.target = 0 then s.escalate j rank deadline else s.convert j rank deadline
      | none => if s.closed i then s else s.createJob i 0 rank deadline none

/-! ## The staged apply (R19 to R21) -/

/-- Some opening of the sequence is an active member of a group other than `g` (R20). -/
def State.applyConflict (s : State) (g : Nat) (members : List Nat) : Bool :=
  (List.range 8).any fun h => h != g && members.any fun i => (s.group h).active.members.contains i

/-- The apply of group `g`: test and replacement in one action, the APPLY-DONE notice, and a coverage check on each new
member (R20). A change of a chain triggers the walk (R58; log 28). -/
def State.applyGroup (g : Nat) (s : State) : State :=
  let old := (s.group g).active
  let new := (s.group g).pendingCopy
  if s.applyConflict g new.members then
    State.placeNotice (.applyDone g .conflict) (s.setGroup g { s.group g with applyRequested := false })
  else
    let s := State.placeNotice (.applyDone g .ok) (s.setGroup g ⟨new, new, false⟩)
    let s := if old.chained || new.chained then s.triggerWalk else s
    (new.members.filter fun i => !old.members.contains i).foldl (fun s i => s.coverageCore i) s

/-- An apply that waits is carried out once its group is quiescent (R19). -/
def State.testQuiescence (g : Option Nat) (s : State) : State :=
  match g with
  | none => s
  | some g => if (s.group g).applyRequested && s.quiescent g then s.applyGroup g else s

/-- The coverage check of one opening (R54); a return to QUEUED is tested for quiescence (R19). -/
def State.coverage (i : Nat) (s : State) : State := State.testQuiescence (s.groupOf i) (s.coverageCore i)

/-! ## Ends and returns (R69, R70) -/

/-- The outcome is a FAILED one (R10). -/
def JobOutcome.isFailure : JobOutcome → Bool
  | .failedObstructed | .failedTimeout | .failedNodeLost => true
  | .none | .done | .cancelled | .halted => false

/-- The counter of an outcome (R70). -/
def JobOutcome.counter : JobOutcome → Counter
  | .done => .jobsDone
  | .failedObstructed | .failedTimeout | .failedNodeLost => .jobsFailed
  | .none | .cancelled | .halted => .jobsCancelled

/-- Steps 1 and 2 of R70, with the withdrawal of a warning (R97) and of a pending halt (R122). -/
def State.removeJob (i : Nat) (outcome : JobOutcome) (s : State) : State :=
  State.modLive i (fun l => { l with lastOutcome := outcome })
    (State.removeWarning i (State.unpend i { s with jobs := s.otherJobs i }))

/-- Steps 4 and 5 of R70: counter, alert and failure status (R10, R11). -/
def State.settleOutcome (i : Nat) (outcome : JobOutcome) (s : State) : State :=
  let s := s.bump outcome.counter
  let s := if outcome.isFailure then s.raiseAlert .jobFailed (some i) else s
  s.modLive i fun l => { l with failed := (outcome.isFailure || l.failed) && !(outcome == .done) }

/-- A job ends (R70). -/
def State.endJob (j : Job) (outcome : JobOutcome) (s : State) : State :=
  let i := j.opening
  let s := s.removeJob i outcome
  let s := s.placeNotice (.jobOutcome i outcome j.target j.rank j.retries j.missed j.tag j.cause)
  let s := s.settleOutcome i outcome
  let s := s.release i
  let s := s.testQuiescence (s.groupOf i)
  s.triggerWalk

/-- A job goes to QUEUED or RETRY_WAIT: its reservation is released, the group is tested for quiescence, and the walk is
triggered (R70). -/
def State.returnJob (old new : Job) (s : State) : State :=
  let s := State.release old.opening (s.changeJob old new)
  State.triggerWalk (s.testQuiescence (s.groupOf old.opening))

/-- An obstruction of a RUNNING job (R65). -/
def State.obstruct (j : Job) (faults : NodeFaults) (s : State) : State :=
  let cause := if faults = noFaults then { noFaults with stall := true } else faults
  let s := s.raiseAlert .obstruction (some j.opening)
  let s := s.bump .obstructions
  let new := { j with cause := some cause }
  if j.retries < s.site.retryLimit then
    s.returnJob j
      { new with retries := j.retries + 1, startedAt := none, state := .retryWait (s.T + s.site.retryDelay) }
  else
    let s := State.release j.opening (s.putJob new)
    s.endJob new .failedObstructed

/-- The job's target has been reached within the closed tolerance (R64). -/
def withinTolerance (position target tolerance : Nat) : Bool :=
  (position - target) + (target - position) ≤ tolerance

/-- The run estimate is computed again from the record as it stands (R52). -/
def State.reestimate (j : Job) (s : State) : State :=
  s.changeJob j { j with estimate := s.runEstimate j.opening j.target }

/-- A close job ends DONE when its opening is closed (R57). -/
def State.endIfClosed (j : Job) (s : State) : State :=
  if j.target = 0 && s.closed j.opening then s.endJob j .done else s

/-- A status report passed on for opening `i`, its live fields already written (R52, R57, R64, R144). -/
def State.statusReport (i : Nat) (s : State) : State :=
  match s.job? i with
  | none => s
  | some j =>
    match j.state with
    | .queued | .retryWait _ =>
      let s := s.reestimate j
      s.endIfClosed { j with estimate := s.runEstimate j.opening j.target }
    | .announcing => s.endIfClosed j
    | .dispatching | .stopping _ => s
    | .running =>
      match (s.live i).motion, (s.live i).position with
      | .stopped, some p =>
        if withinTolerance p j.target (s.cfg i).tolerance then s.endJob j .done else s.obstruct j (s.live i).faults
      | _, _ => s

/-- The reservation of a started motor moves to INRUSH (R63, R88). -/
def State.beginInrush (i : Nat) (s : State) : State :=
  s.modReservation i fun r =>
    if r.phase = .inrushWait then { r with phase := .inrush (s.tenths + (s.cfg i).inrushDuration) } else r

/-- The outcome of a DRIVE (R63). -/
def State.driveOutcome (i : Nat) (success : Bool) (s : State) : State :=
  match s.job? i with
  | none => s
  | some j =>
    match j.state with
    | .dispatching =>
      if success then State.beginInrush i (s.changeJob j { j with state := .running, startedAt := some s.T })
      else s.returnJob j { j with state := .queued }
    | .stopping _ =>
      if success then State.beginInrush i (s.changeJob j { j with startedAt := some s.T }) else s
    | .queued | .announcing | .running | .retryWait _ => s

/-- The after-stop path of a job whose HALT has succeeded (R69). -/
def State.afterStop (j : Job) (after : AfterStop) (s : State) : State :=
  let s := s.release j.opening
  let new := { j with startedAt := none }
  match after with
  | .requeueClose =>
    s.returnJob j { new with state := .queued, target := 0, estimate := s.runEstimate j.opening 0 }
  | .cancelled => s.endJob new .cancelled
  | .halted => s.endJob new .halted
  | .failedTimeout => s.endJob new .failedTimeout

/-- The outcome of a HALT (R68, R69, R145). -/
def State.haltOutcome (i : Nat) (success : Bool) (s : State) : State :=
  match s.job? i with
  | none => s
  | some j =>
    match j.state with
    | .stopping after =>
      if success then s.afterStop j after
      else if (s.node i).presence = .present then s.requestHalt i
      else s
    | .queued | .announcing | .dispatching | .running | .retryWait _ => s

end Sys2Proof.Machine
end

