-- ==== Sys2Proof/Machine/Walk.lean ====
section
/-! DEFINITION. The walk over the job queue (R59), the start of a job (R60), its dispatch (R62), and the end of a
warning (R61). -/

namespace Sys2Proof.Machine

/-- A start of the job needs a warning (R60). -/
def State.needsWarning (s : State) (j : Job) : Bool :=
  (s.cfg j.opening).reachable
    && ((match (s.live j.opening).lastAnnounced with
        | none => true
        | some t => 30 ≤ s.T - t)
      || 0 < j.retries)

/-- The job enters DISPATCHING and its DRIVE joins the line request queue; a job that would open its sash against a
threat is converted instead, as a QUEUED job, and its reservation is released (R62). -/
def State.dispatch (j : Job) (s : State) : State :=
  match s.threatOf j.opening, s.moreOpen j.opening j.target with
  | some (rank, deadline), true =>
    State.release j.opening (s.convertToQueued j (s.converted j rank deadline))
  | _, _ =>
    State.enqueue (.drive (s.cfg j.opening).address j.opening j.target)
      (s.changeJob j { j with state := .dispatching })

/-- The dispatch would convert the job (R62). -/
def State.dispatchConverts (s : State) (j : Job) : Bool :=
  (s.threatOf j.opening).isSome && s.moreOpen j.opening j.target

/-- The reservation of a start (R60, R88). -/
def State.reserve (i : Nat) (s : State) : State :=
  { s with reserv := insertReservation ⟨i, (s.cfg i).inrush, .inrushWait, false⟩ s.reserv }

/-- A job is started: a reservation, then its warning or its dispatch (R60). -/
def State.startJob (j : Job) (s : State) : State :=
  let s' := s.reserve j.opening
  if s.needsWarning j then State.beginWarning j.opening (s'.changeJob j { j with state := .announcing })
  else s'.dispatch j

/-- The walk passes over the job (R59, step 1). -/
def State.passesOver (s : State) (i : Nat) : Bool :=
  !((s.node i).presence == .present) || !s.chainReady i || s.line.handover == .granted || (s.reservation? i).isSome

/-- The jobs in ANNOUNCING and DISPATCHING (R59, step 2). -/
def State.startsUnderWay (s : State) : Nat :=
  (s.jobs.filter fun j => j.state == .announcing || j.state == .dispatching).length

/-- The walk stops at the job: the cap, the budget or the line room (R59, steps 2 to 4). -/
def State.stopsAt (s : State) (j : Job) : Bool :=
  8 ≤ s.startsUnderWay
    || s.beff < reservedSum s.reserv + (s.cfg j.opening).inrush
    || (!s.needsWarning j && 16 ≤ s.line.queue.length)

/-- The openings of the QUEUED jobs, in queue order. -/
def State.queuedOpenings (s : State) : List Nat := (s.jobs.filter (·.state == .queued)).map (·.opening)

/-- One pass of the walk over the openings still to be visited; the flag says that a conversion asks for the walk to
start again from the front (R59, R62). -/
def walkPass : List Nat → State → State × Bool
  | [], s => (s, false)
  | i :: is, s =>
    match s.job? i with
    | none => walkPass is s
    | some j =>
      if s.passesOver i then walkPass is s
      else if s.stopsAt j then (s, false)
      else if !s.needsWarning j && s.dispatchConverts j then (s.startJob j, true)
      else walkPass is (s.startJob j)

/-- The walk, started again after each conversion; each conversion leaves one target above 0 fewer, so 49 passes are
enough for 48 jobs. -/
def walkFrom : Nat → State → State
  | 0, s => s
  | n + 1, s =>
    match walkPass s.queuedOpenings s with
    | (s', true) => walkFrom n s'
    | (s', false) => s'

/-- The walk, if it has been triggered in this event; in cutoff it does not run and the trigger is not kept (R58). -/
def State.runWalk (s : State) : State :=
  if s.walkDue && !s.supply.cutoff then { walkFrom 49 s with walkDue := false } else { s with walkDue := false }

/-- The end of the opening's warning is reported to the Closure Scheduler (R61). -/
def State.warningReported (i : Nat) (s : State) : State :=
  match s.job? i with
  | none => s
  | some j =>
    if j.state = .announcing then
      if (s.node i).presence = .present && s.line.queue.length < 16 then
        let s := s.dispatch j
        let s := s.modLive i fun l => { l with lastAnnounced := some s.T }
        s.testQuiescence (s.groupOf i)
      else s.returnJob j { j with state := .queued }
    else s

/-- The opening's warning ends: its entry is removed, the zones are evaluated, and the end is reported (R96). -/
def State.endWarning (i : Nat) (s : State) : State :=
  State.triggerWalk (State.warningReported i (s.removeWarning i))

end Sys2Proof.Machine
end

