-- ==== Sys2Proof/Machine/Finish.lean ====
section
/-! DEFINITION. The end of an event: the arbiter (R124), the room reported to the neighbours (R122), the Node
Supervisor's placing of owed requests (R139), and the walk after every other change (R58). -/

namespace Sys2Proof.Machine

/-! ## Owed requests (R139) -/

/-- Before in the order of placing: due time, then opening number (R139). -/
def State.dueBefore (s : State) (a b : Nat) : Bool :=
  (s.node a).dueAt < (s.node b).dueAt || ((s.node a).dueAt = (s.node b).dueAt && a < b)

/-- Insert an opening into a list kept in the order of placing. -/
def insertDue (s : State) (x : Nat) : List Nat → List Nat
  | [] => [x]
  | y :: ys => if s.dueBefore x y then x :: y :: ys else y :: insertDue s x ys

/-- The enabled openings whose nodes are owed, in the order of placing (R139). -/
def State.owedOpenings (s : State) : List Nat :=
  ((List.range 48).filter fun i => (s.cfg i).enabled && (s.node i).owed).foldr (insertDue s) []

/-- The interval of a node in tenths (R139, R140). -/
def State.pollInterval (s : State) (i : Nat) : Nat :=
  match (s.node i).presence with
  | .hunt => 300
  | .probation => 10
  | .present =>
    match s.job? i with
    | none => 100
    | some j => if j.state = .running || j.state.isStopping then 5 else 100

/-- The request placed for the opening's node: IDENT in HUNT, else POLL (R139). -/
def State.searchRequest (s : State) (i : Nat) : LineRequest :=
  if (s.node i).presence = .hunt then .ident (s.cfg i).address i else .poll (s.cfg i).address i

/-- A request of the same kind for the same node waits (R123). -/
def State.meetsWaiting (s : State) (r : LineRequest) : Bool :=
  s.line.queue.any fun q => (q.isPoll == r.isPoll) && q.isSearch && q.address == r.address

/-- The node's request counts as placed: owed no, and the next falls due an interval from now (R139). -/
def State.placed (i : Nat) (s : State) : State :=
  s.modNode i fun n => { n with owed := false, dueAt := s.tenths + s.pollInterval i }

/-- Requests of the owed nodes are placed in order until one finds no room (R123, R139). -/
def placeEach : List Nat → State → State
  | [], s => s
  | i :: is, s =>
    if s.meetsWaiting (s.searchRequest i) then placeEach is (s.placed i)
    else if searchCount s.line.queue < 4 && s.line.queue.length < 16 then
      placeEach is (State.placed i (s.enqueue (s.searchRequest i)))
    else s

/-- The Node Supervisor places its owed requests (R139). -/
def State.placeOwed (s : State) : State := placeEach s.owedOpenings s

/-- The node becomes owed when its due time has been reached (R139). -/
def State.becomeOwed (i : Nat) (s : State) : State :=
  if (s.cfg i).enabled && (s.node i).dueAt ≤ s.tenths && !(s.node i).owed then
    s.modNode i fun n => { n with owed := true }
  else s

/-! ## The arbiter (R124) -/

/-- The line is free (R124). -/
def State.lineFree (s : State) : Bool :=
  s.line.flight.isNone && !s.line.quiet && (s.line.handover == .line || s.line.handover == .deferred)

/-- The request the arbiter chooses: the oldest of the HALT class, else the oldest DRIVE, else the oldest (R124). -/
def chooseRequest (q : List LineRequest) : Option LineRequest :=
  match q.find? (·.inHaltClass) with
  | some r => some r
  | none =>
    match q.find? (·.isDrive) with
    | some r => some r
    | none => q.head?

/-- The chosen request leaves the queue, takes its sequence and begins its first attempt (R112, R124). -/
def State.startRequest (r : LineRequest) (s : State) : State :=
  State.slotFreed
    { s with line := { s.line with
        queue := s.line.queue.erase r
        flight := some ⟨r, s.line.seq, 1, 0, .sending, false⟩
        seq := (s.line.seq + 1) % 256 } }

/-- The arbiter acts: with the line free it starts the request it chooses, if one waits (R124). -/
def State.arbitrate (s : State) : State :=
  if s.lineFree then
    match chooseRequest s.line.queue with
    | none => s
    | some r => s.startRequest r
  else s

/-! ## Room (R122) and the end of the event -/

/-- The POLL and IDENT class has room (R122, R123). -/
def searchRoom (q : List LineRequest) : Bool := searchCount q < 4 && q.length < 16

/-- What room has come since the start of the event is reported: to the Node Supervisor, which places its owed requests,
and to the Closure Scheduler, as a trigger of the walk (R122). -/
def State.reportRoom (before : List LineRequest) (s : State) : State :=
  let s' := if searchRoom s.line.queue && !searchRoom before then s.placeOwed else s
  if s.line.queue.length < 16 && 16 ≤ before.length then s'.triggerWalk else s'

/-- The halts that became pending in this event join the list behind the earlier ones (R122; log 23). -/
def State.mergeHalts (s : State) : State :=
  { s with line := { s.line with pendingHalts := s.line.pendingHalts ++ s.line.newHalts, newHalts := [] } }

/-- The end of an event that began with the line request queue `before` (R58, R122, R124; log 9): the arbiter acts, room
is reported, the walk runs, and the arbiter acts on what was placed on a line still free. -/
def State.finish (before : List LineRequest) (s : State) : State :=
  (State.runWalk (State.reportRoom before s.arbitrate)).arbitrate.mergeHalts

end Sys2Proof.Machine
end

