-- ==== Sys2Proof/Machine/Service.lean ====
section
/-! DEFINITION. Service handover: R127 to R131, and the commands SVCREQ_ASSERTED, SVCREQ_RELEASED, SERVICE_GRANT and
GUARD_END. -/

namespace Sys2Proof.Machine

/-- The outcome of a command. -/
abbrev Result := Host.Outcome State Fault Refusal

/-- An event of the running part: its body, then the end of the event. While the part is not running no event is
delivered and no input examined (R171, R172; log 30). -/
def State.event (body : State → State) (s : State) : Result :=
  if s.phase = .running then .next (State.finish s.line.queue (body s)) else .next s

/-- An event of the running part that touches neither the line request queue nor anything the walk or the arbiter waits
for: its body alone. -/
def State.plainEvent (body : State → State) (s : State) : Result :=
  if s.phase = .running then .next (body s) else .next s

/-! ## Delivered events (R171; log 5) -/

/-- A command of an event that advances of the tenths count deliver acts while at least one such event, delivered and
not yet taken, stands; else there is nothing to take (R171; log 5). -/
def State.whenDue (count : Nat) (run : State → Result) (s : State) : Result := if 0 < count then run s else .next s

/-- The Supply Budget Unit takes one 100 ms event. -/
def State.takeSupply (s : State) : State := { s with due := { s.due with supply := s.due.supply - 1 } }

/-- Warning Outputs takes one 100 ms event, and what was taken out of it ahead is done with. -/
def State.takeWarnings (s : State) : State :=
  { s with due := { s.due with warnings := s.due.warnings - 1, turned := [] } }

/-- The Node Supervisor takes one 100 ms event. -/
def State.takeNodes (s : State) : State := { s with due := { s.due with nodes := s.due.nodes - 1 } }

/-- The Weather Monitor takes one sample event. -/
def State.takeSampleEvent (s : State) : State := { s with due := { s.due with sample := s.due.sample - 1 } }

/-- The Closure Scheduler takes one supervision event. -/
def State.takeSupervision (s : State) : State := { s with due := { s.due with supervision := s.due.supervision - 1 } }

/-- The events of an advance that left the tenths count at `tenths`: the three 100 ms events, and on a carry the two 1 s
events (R171). -/
def Due.deliver (tenths : Nat) (d : Due) : Due :=
  let carry := if tenths % 10 = 0 then 1 else 0
  { d with
    supply := d.supply + 1, warnings := d.warnings + 1, nodes := d.nodes + 1
    sample := d.sample + carry, supervision := d.supervision + carry }

/-! ## Handover -/

/-- Set the handover state. -/
def State.setHandover (h : Handover) (s : State) : State := { s with line := { s.line with handover := h } }

/-- The grant is given in DRAINING when no request is in flight (R128). -/
def State.grantIfDrained (s : State) : State :=
  if s.line.handover = .draining && s.line.flight.isNone then
    State.raiseAlert .serviceActive none (s.setHandover .granted)
  else s

/-- An entry to DRAINING: failure counting is paused, and the grant is given if nothing is in flight (R128). -/
def State.enterDraining (s : State) : State :=
  State.grantIfDrained { s.setHandover .draining with countingPaused := true }

/-- An assertion of SVCREQ is taken (R127). -/
def State.takeServiceRequest (s : State) : State :=
  if s.line.handover = .line then
    if s.windOrRain then s.setHandover .deferred else s.enterDraining
  else s

/-- The grant is withdrawn: GUARD, the alert cleared, the walk triggered (R129). -/
def State.withdrawGrant (s : State) : State :=
  State.triggerWalk (State.clearAlert .serviceActive (s.setHandover .guarding))

/-- A release of SVCREQ is taken (R129). -/
def State.takeServiceRelease (s : State) : State :=
  match s.line.handover with
  | .granted => s.withdrawGrant
  | .deferred => s.setHandover .line
  | .draining => { s.setHandover .line with countingPaused := false }
  | .line | .guarding => s

/-- The controller is told that a WIND or RAIN source has been raised (R128, R129). -/
def State.weatherRaised (s : State) : State :=
  match s.line.handover with
  | .draining => { s.setHandover .deferred with countingPaused := false }
  | .granted => s.withdrawGrant
  | .line | .deferred | .guarding => s

/-- The controller is told that the WIND or RAIN active condition has stopped holding (R131). -/
def State.weatherEnded (s : State) : State :=
  if s.line.handover = .deferred then s.enterDraining else s

/-- Every PRESENT node becomes due at once; its POLL is placed by R139 (R130, R141). -/
def State.pollAllPresent (s : State) : State :=
  (List.range 48).foldl
    (fun s i => if (s.node i).presence = .present then s.modNode i fun n => { n with dueAt := s.tenths } else s) s

/-- The guard runs out (R130). -/
def State.endGuard (s : State) : State :=
  if s.line.handover = .guarding then
    let s := State.pollAllPresent { s with countingPaused := false }
    if s.svcreq then if s.windOrRain then s.setHandover .deferred else s.enterDraining
    else s.setHandover .line
  else s

/-- SVCREQ_ASSERTED (R127). The pin is set in every phase; it is examined while the part runs. -/
def execSvcreqAsserted (s : State) : Result :=
  State.event State.takeServiceRequest { s with svcreq := true }

/-- SVCREQ_RELEASED (R129). The pin is cleared in every phase. -/
def execSvcreqReleased (s : State) : Result :=
  State.event State.takeServiceRelease { s with svcreq := false }

/-- SERVICE_GRANT (R128): in DRAINING with nothing in flight the grant is given. -/
def execServiceGrant (s : State) : Result := State.event State.grantIfDrained s

/-- GUARD_END (R130). -/
def execGuardEnd (s : State) : Result := State.event State.endGuard s

/-- ARBITER_START (R124): the arbiter acts at the end of every event, and so of this one. -/
def execArbiterStart (s : State) : Result := State.event (fun s => s) s

end Sys2Proof.Machine
end

