-- ==== Sys2Proof/Machine/Nodes.lean ====
section
/-! DEFINITION. The Node Supervisor: replies taken (R135 to R137, R142, R143), failures and the loss of a node (R138,
R146, R147), and its commands NODE_SUPERVISOR_100MS_EVENT and POLL_DUE. -/

namespace Sys2Proof.Machine

/-- The data of a valid STATUS reply (R110). -/
structure StatusReply where
  position : Nat
  motion   : Motion
  faults   : NodeFaults
  current  : Nat
  deriving DecidableEq, Repr

/-- A valid STATUS writes the live fields and the last current; an opening that becomes closed triggers the walk (R5,
R135). -/
def State.writeStatus (i : Nat) (r : StatusReply) (s : State) : State :=
  let s' := (s.modLive i fun l =>
      { l with position := some r.position, motion := r.motion, faults := r.faults, stale := false }).modNode i
    fun n => { n with lastCurrent := some r.current }
  if s'.closed i && !s.closed i then s'.triggerWalk else s'

/-- What a valid reply does to a node record, by its presence state (R136, R137, R138, R143). -/
def NodeRecord.replied (now : Nat) (n : NodeRecord) : NodeRecord :=
  match n.presence with
  | .hunt => { n with presence := .probation, success := 0, failure := 0, dueAt := now + 10 }
  | .probation =>
    if 3 ≤ n.success + 1 then
      { n with presence := .present, success := 0, failure := 0, coverageOwed := true, dueAt := now }
    else { n with success := n.success + 1 }
  | .present => { n with failure := 0 }

/-- The presence effects of a valid reply; an entry to PRESENT triggers the walk (R143, R58). -/
def State.presenceReplied (i : Nat) (s : State) : State :=
  let s' := s.modNode i (NodeRecord.replied s.tenths)
  if (s'.node i).presence = .present && !((s.node i).presence = .present) then s'.triggerWalk else s'

/-- A STOPPED report taken in PRESENT ends the opening's RESIDUAL entry (R91). -/
def State.stoppedReport (i : Nat) (s : State) : State :=
  match s.reservation? i with
  | none => s
  | some r => if r.phase.isResidual then s.dropReservation i else s

/-- The coverage check owed since the node entered PRESENT (R135, step 4; R143). -/
def State.payCoverage (i : Nat) (s : State) : State :=
  if (s.node i).coverageOwed then
    State.coverage i (s.modNode i fun n => { n with coverageOwed := false })
  else s

/-- The final outcome of a DRIVE or HALT is reported (R117, R145). -/
def State.reportOutcome (r : LineRequest) (success : Bool) (s : State) : State :=
  match r with
  | .drive _ i _ => s.driveOutcome i success
  | .halt _ i => s.haltOutcome i success
  | .poll _ _ | .ident _ _ | .haltAll => s

/-- What the Closure Scheduler receives of a STATUS reply to `request`: a POLL's as a status report, a DRIVE's or HALT's
as the outcome of its transaction (R135, steps 2 and 3). -/
def State.passOn (request : LineRequest) (i : Nat) (s : State) : State :=
  if request.isPoll then s.statusReport i else s.reportOutcome request true

/-- A valid STATUS reply to a request for opening `i` is taken: the live fields, the presence effects, and the four
hand-offs in their order (R135). -/
def State.takeStatus (i : Nat) (request : LineRequest) (r : StatusReply) (s : State) : State :=
  let inPresent : Bool := (s.node i).presence = .present
  let s := State.presenceReplied i (s.writeStatus i r)
  let s := if inPresent && r.motion = .stopped then s.stoppedReport i else s
  let s := s.passOn request i
  if inPresent then s.payCoverage i else s

/-- A job's target above the effective travel is brought down to it (R142). -/
def State.lowerTarget (i : Nat) (s : State) : State :=
  match s.job? i with
  | none => s
  | some j =>
    if s.effTravel i < j.target then
      s.changeJob j { j with target := s.effTravel i, estimate := s.runEstimate i (s.effTravel i) }
    else s

/-- A valid IDENT reply for opening `i` is taken (R135, R142). -/
def State.takeIdent (i travel : Nat) (s : State) : State :=
  let s := s.modLive i fun l => { l with reportedTravel := some travel }
  let s := if travel = (s.cfg i).travel then s else s.raiseAlert .configMismatch (some i)
  State.presenceReplied i (s.lowerTarget i)

/-- A node enters HUNT (R136): counts 0, nothing owed, an IDENT due at once; the last current stays. -/
def NodeRecord.hunted (now : Nat) (n : NodeRecord) : NodeRecord :=
  { n with presence := .hunt, success := 0, failure := 0, coverageOwed := false, owed := false, dueAt := now }

/-- A node of PROBATION or PRESENT enters HUNT; its position becomes stale (R136). -/
def State.enterHunt (i : Nat) (s : State) : State :=
  (s.modNode i (NodeRecord.hunted s.tenths)).modLive i fun l => { l with stale := true }

/-- The expiry of a RESIDUAL entry made for a job (R90). -/
def State.residualExpiry (s : State) (j : Job) : Nat :=
  let remaining := match j.startedAt with
    | none => j.estimate
    | some t => j.estimate - (s.T - t)
  s.tenths + 10 * (remaining + 5)

/-- The opening's unmarked entry becomes RESIDUAL (R90). -/
def State.makeResidual (j : Job) (s : State) : State :=
  s.modReservation j.opening fun r => if r.marked then r else { r with phase := .residual (s.residualExpiry j) }

/-- The job of a lost node is dealt with by its state (R147), its reservation as R90 gives. -/
def State.loseJob (j : Job) (s : State) : State :=
  match j.state with
  | .queued | .retryWait _ | .announcing => s
  | .dispatching => s.returnJob j { j with state := .queued }
  | .running => State.endJob j .failedNodeLost (s.makeResidual j)
  | .stopping .cancelled => State.endJob j .cancelled (s.makeResidual j)
  | .stopping .halted => State.endJob j .halted (s.makeResidual j)
  | .stopping .failedTimeout => State.endJob j .failedTimeout (s.makeResidual j)
  | .stopping .requeueClose =>
    State.returnJob j { j with state := .queued, target := 0, startedAt := none } (s.makeResidual j)

/-- The loss of a node, steps 1 to 5 of R146. -/
def State.loseNode (i : Nat) (s : State) : State :=
  let s := State.raiseAlert .nodeLost (some i) (s.enterHunt i)
  let s := State.slotFreed ((s.filterQueue fun r => !r.movesOpening i).unpend i)
  match s.job? i with
  | none => s
  | some j => s.loseJob j

/-- A failed attempt for opening `i` is taken (R136, R137, R138, R141). -/
def State.nodeFailure (i : Nat) (s : State) : State :=
  if s.countingPaused then s
  else match (s.node i).presence with
    | .hunt => s
    | .probation => s.enterHunt i
    | .present =>
      if 3 ≤ (s.node i).failure + 1 then s.loseNode i
      else s.modNode i fun n => { n with failure := n.failure + 1 }

/-- NODE_SUPERVISOR_100MS_EVENT (R139, R171): nodes whose due time has come become owed, and owed requests are placed. -/
def execNodeSupervisor100msEvent (s : State) : Result :=
  State.whenDue s.due.nodes
    (State.event fun s => State.placeOwed ((List.range 48).foldl (fun s i => s.becomeOwed i) s.takeNodes)) s

/-- POLL_DUE (R139): the opening's node becomes owed if its due time has come, and owed requests are placed (log 6). -/
def execPollDue (opening : Nat) (s : State) : Result :=
  State.whenDue s.due.nodes (State.event fun s => State.placeOwed (s.becomeOwed opening)) s

end Sys2Proof.Machine
end

