-- ==== Sys2Proof/Machine/Frames.lean ====
section
/-! DEFINITION. Characters, request frames and reply frames of the actuator line: R108 to R111, and the tests of a
complete reply (R114). -/

namespace Sys2Proof.Machine

/-- The number of ones in a byte. -/
def onesIn (b : Byte) : Nat := (List.range 8).countP fun k => b.getLsbD k

/-- The nine data bits and the parity bit hold an odd number of ones (R108). -/
def parityFault (c : LineChar) : Bool :=
  (onesIn c.value + c.mark.toNat + c.parity.toNat) % 2 = 1

/-- A character as the part sends it: even parity, stop bit high (R108). -/
def soundChar (mark : Bool) (value : Byte) : LineChar :=
  { value := value, mark := mark, parity := (onesIn value + mark.toNat) % 2 = 1, stop := true }

/-- The 12 bits of a character in the order they are sent, high as `true`: the start bit, the eight value bits with the
least significant first, the address mark as ninth data bit, the parity bit, the stop bit (R108). -/
def LineChar.bits (c : LineChar) : List Bool :=
  false :: ((List.range 8).map c.value.getLsbD ++ [c.mark, c.parity, c.stop])

/-- One shift of the CRC-8 register (R111). -/
def crc8Shift (r : Byte) : Byte := if r.msb then (r <<< 1) ^^^ 49#8 else r <<< 1

/-- The CRC-8 register after one more covered character (R111). -/
def crc8Step (r c : Byte) : Byte := Nat.repeat crc8Shift 8 (r ^^^ c)

/-- The check sequence of the covered characters (R111). -/
def crc8 (covered : List Byte) : Byte := covered.foldl crc8Step 0#8

/-- The kind character of a request (R109). -/
def LineRequest.kindCode : LineRequest → Byte
  | .poll _ _ => 16#8
  | .drive _ _ _ => 33#8
  | .halt _ _ => 50#8
  | .ident _ _ => 67#8
  | .haltAll => 94#8

/-- The covered characters of a request: kind, sequence and a DRIVE's target in two parts (R109, R111). -/
def LineRequest.covered (r : LineRequest) (seq : Nat) : List Byte :=
  match r with
  | .drive _ _ target => [r.kindCode, BitVec.ofNat 8 seq, BitVec.ofNat 8 (target / 256), BitVec.ofNat 8 (target % 256)]
  | .poll _ _ | .halt _ _ | .ident _ _ | .haltAll => [r.kindCode, BitVec.ofNat 8 seq]

/-- The characters of a request frame (R108, R109). -/
def LineRequest.frame (r : LineRequest) (seq : Nat) : List LineChar :=
  soundChar true (BitVec.ofNat 8 r.address)
    :: (r.covered seq ++ [crc8 (r.covered seq)]).map (soundChar false)

/-- The length of a reply of the kind its second character names (R110, R114). -/
def replyLength (kind : Byte) : Option Nat :=
  if kind = 144#8 then some 9
  else if kind = 165#8 then some 4
  else if kind = 195#8 then some 6
  else none

/-- The stored characters form a complete reply (R114). -/
def replyIsComplete (buf : List (Bool × Byte)) : Bool :=
  match buf[1]? with
  | none => false
  | some k => replyLength k.2 = some buf.length

/-- The value of stored character `k`, counted from 0. -/
def charAt (buf : List (Bool × Byte)) (k : Nat) : Byte := (buf[k]?.map (·.2)).getD 0#8

/-- A two-part number of a reply (R110). -/
def twoPart (buf : List (Bool × Byte)) (k : Nat) : Nat := (charAt buf k).toNat * 256 + (charAt buf (k + 1)).toNat

/-- The fault flags of a STATUS; the four upper bits are disregarded (R110). -/
def faultsOfFlags (b : Byte) : NodeFaults := ⟨b.getLsbD 0, b.getLsbD 1, b.getLsbD 2, b.getLsbD 3⟩

/-- The motion of a STATUS; a value above 2 is not valid (R110). -/
def motionOfCode (n : Nat) : Option Motion :=
  match n with
  | 0 => some .stopped
  | 1 => some .opening
  | 2 => some .closing
  | _ => none

/-- What a complete reply is found to be (R114, R115). -/
inductive ReplyVerdict where
  | failure (kind : FailureKind)
  | wait
  | status (r : StatusReply)
  | ident (travel : Nat)
  deriving DecidableEq, Repr

/-- The reply kinds a request allows (R110). -/
def replyAllowed (r : LineRequest) (kind : Byte) : Bool :=
  match r with
  | .poll _ _ | .drive _ _ _ | .halt _ _ => kind = 144#8 || kind = 165#8
  | .ident _ _ => kind = 195#8 || kind = 165#8
  | .haltAll => false

/-- A position of 12 bits; the manual does not say what a high part above 15 means, and the value is then free (R110;
log 15). -/
def positionOf (draw raw : Nat) : Nat := if raw ≤ 4095 then raw else Config.freePosition draw % 4096

/-- A travel of 16 to 4095; above that the value is free (R110; log 15). -/
def travelOf (draw raw : Nat) : Nat := if raw ≤ 4095 then raw else 16 + Config.freeTravel draw % 4080

/-- The data of a reply whose header, kind and sequence have passed (R110, R114 test 5). -/
def replyData (draw : Nat) (buf : List (Bool × Byte)) : ReplyVerdict :=
  if charAt buf 1 = 165#8 then .wait
  else if charAt buf 1 = 195#8 then
    if twoPart buf 3 < 16 then .failure .check else .ident (travelOf draw (twoPart buf 3))
  else match motionOfCode (charAt buf 5).toNat with
    | none => .failure .check
    | some m =>
      .status
        { position := positionOf draw (twoPart buf 3), motion := m
          faults := faultsOfFlags (charAt buf 6), current := (charAt buf 7).toNat }

/-- The tests of a complete reply, in their order (R114). -/
def judgeReply (draw : Nat) (f : Flight) (buf : List (Bool × Byte)) : ReplyVerdict :=
  if crc8 ((buf.drop 1).dropLast.map (·.2)) ≠ charAt buf (buf.length - 1) then .failure .check
  else if (charAt buf 0).toNat ≠ 128 + f.request.address then .failure .mismatch
  else if !replyAllowed f.request (charAt buf 1) then .failure .mismatch
  else if (charAt buf 2).toNat ≠ f.seq then .failure .mismatch
  else replyData draw buf

end Sys2Proof.Machine
end

