-- ==== Sys2Proof/Machine/Transaction.lean ====
section
/-! DEFINITION. The transaction on the actuator line: attempts, resends, failures and their captures (R112 to R118),
HALT-ALL (R126, R85), and the line's commands. -/

namespace Sys2Proof.Machine

/-- Replace the request in flight. -/
def State.setFlight (f : Option Flight) (s : State) : State := { s with line := { s.line with flight := f } }

/-- The reply window closes and the reply buffer empties (R115, R116). -/
def State.closeWindow (s : State) : State := { s with line := { s.line with replyBuf := [], replyTimer := none } }

/-- The counter of a failure kind (R118). -/
def FailureKind.counter : FailureKind → Counter
  | .parity => .parity
  | .framing => .framing
  | .overrun => .overrun
  | .check => .check
  | .mismatch => .mismatch
  | .timeout => .timeout
  | .waitExhausted => .waitExhausted

/-- The last-failure capture of the request's node address is written (R118). -/
def State.capture (address : Nat) (kind : FailureKind) (s : State) : State :=
  let c : Capture := ⟨kind, s.T, s.line.replyBuf.length, s.line.replyBuf.take 4⟩
  { s with line := { s.line with captures := s.line.captures.setIfInBounds address (some c) } }

/-- The transaction has come to its final outcome: the line is no longer held, and a drain that waited for it ends in
the grant (R116, R128). -/
def State.endFlight (s : State) : State := State.grantIfDrained (s.setFlight none)

/-- The counted part of a failed attempt: counter, capture, the window closed and the quiet wait begun (R116, R118). -/
def State.countFailure (f : Flight) (kind : FailureKind) (s : State) : State :=
  let s := State.closeWindow (State.capture f.request.address kind (s.bump kind.counter))
  { s with line := { s.line with quiet := true } }

/-- The failed attempt is reported to the Node Supervisor, unless the opening was rewritten meanwhile (R117). -/
def State.reportFailure (f : Flight) (s : State) : State :=
  match f.request.opening?, f.detached with
  | some i, false => s.nodeFailure i
  | _, _ => s

/-- The report of a failed attempt takes the node out of PRESENT (R117). -/
def State.lostBy (f : Flight) (before after : State) : Bool :=
  match f.request.opening? with
  | none => false
  | some i => (before.node i).presence = .present && !((after.node i).presence = .present)

/-- An attempt fails (R116, R117). A DRIVE or HALT is attempted up to three times, but not once its node is lost. -/
def State.failAttempt (kind : FailureKind) (f : Flight) (s : State) : State :=
  let s1 := s.countFailure f kind
  let s2 := s1.reportFailure f
  if f.request.retried && f.attempt < 3 && !State.lostBy f s1 s2 then
    s2.setFlight (some { f with stage := .nextAttempt })
  else
    let s3 := s2.setFlight none
    let s4 := if f.detached then s3 else s3.reportOutcome f.request false
    s4.grantIfDrained

/-- A valid WAIT (R115): a resend after 20 ms, or the failure of the attempt at the fourth. -/
def State.takeWait (f : Flight) (s : State) : State :=
  if f.resends < 3 then State.setFlight (some { f with resends := f.resends + 1, stage := .resendDelay }) s.closeWindow
  else s.failAttempt .waitExhausted f

/-- A valid STATUS or IDENT ends the transaction in success, and is reported unless the opening was rewritten meanwhile
(R117). -/
def State.succeed (f : Flight) (report : Nat → State → State) (s : State) : State :=
  let s := State.setFlight none s.closeWindow
  let s := match f.request.opening?, f.detached with
    | some i, false => report i s
    | _, _ => s
  s.grantIfDrained

/-- A complete reply is dealt with (R114, R115, R117). A free value drawn for it is counted. -/
def State.finishReply (f : Flight) (s : State) : State :=
  let drawn := { s with freeUses := s.freeUses + 1 }
  match judgeReply s.freeUses f s.line.replyBuf with
  | .failure kind => s.failAttempt kind f
  | .wait => s.takeWait f
  | .status r => drawn.succeed f fun i s => s.takeStatus i f.request r
  | .ident travel => drawn.succeed f fun i s => s.takeIdent i travel

/-- The failure, if any, that a character brings as it arrives (R114). Where one character meets several of R114's
conditions, R114 does not say which comes first; the model takes them in the order of its table (DESIGN CHOICE, log
46). -/
def characterFailure (buf : List (Bool × Byte)) (c : LineChar) : Option FailureKind :=
  if parityFault c then some .parity
  else if !c.stop then some .framing
  else if c.mark != buf.isEmpty then some .framing
  else if 12 ≤ buf.length then some .overrun
  else none

/-- A character arrives on LRX (R108, R114). With a reply window open it is stored, or fails the attempt; outside one
it only lengthens a quiet wait. -/
def State.receiveChar (c : LineChar) (s : State) : State :=
  match s.line.flight with
  | none => s
  | some f =>
    if f.stage = .window then
      match characterFailure s.line.replyBuf c with
      | some kind => s.failAttempt kind f
      | none =>
        let s := { s with line := { s.line with
          replyBuf := s.line.replyBuf ++ [(c.mark, c.value)], replyTimer := none } }
        if replyIsComplete s.line.replyBuf then s.finishReply f else s
    else s

/-- The last request character has been sent: the reply window opens and the reply timer starts (R113). -/
def State.openWindow (s : State) : State :=
  match s.line.flight with
  | none => s
  | some f =>
    if f.stage = .sending && f.request != .haltAll then
      let s := s.setFlight (some { f with stage := .window })
      { s with line := { s.line with replyBuf := [], replyTimer := some s.site.replyTimeout } }
    else s

/-- The reply timer exceeds the reply timeout with no reply begun (R113). -/
def State.timeOutReply (s : State) : State :=
  match s.line.flight with
  | none => s
  | some f => if f.stage = .window && s.line.replyTimer.isSome then s.failAttempt .timeout f else s

/-- More than 3 character times pass inside a reply (R114). -/
def State.gapInReply (s : State) : State :=
  match s.line.flight with
  | none => s
  | some f => if f.stage = .window && s.line.replyTimer.isNone then s.failAttempt .framing f else s

/-- The 20 ms after a WAIT have passed: the same request is sent again (R115). -/
def State.resend (s : State) : State :=
  match s.line.flight with
  | none => s
  | some f => if f.stage = .resendDelay then s.setFlight (some { f with stage := .sending }) else s

/-- The quiet wait ends: a request that is attempted again begins its next attempt (R116). -/
def State.endQuiet (s : State) : State :=
  if s.line.quiet then
    let s := { s with line := { s.line with quiet := false } }
    match s.line.flight with
    | none => s
    | some f =>
      if f.stage = .nextAttempt then
        s.setFlight (some { f with attempt := f.attempt + 1, resends := 0, stage := .sending })
      else s
  else s

/-- The transmission of HALT-ALL is reported: every marked entry is released (R85). -/
def State.releaseMarked (s : State) : State :=
  { s with reserv := s.reserv.filter (fun r => !r.marked), walkDue := s.walkDue || s.reserv.any (·.marked) }

/-- The last character of HALT-ALL has been sent (R126). -/
def State.haltAllDone (s : State) : State :=
  match s.line.flight with
  | none => s
  | some f => if f.stage = .sending && f.request = .haltAll then s.releaseMarked.endFlight else s

/-- REQUEST_SENT (R113). -/
def execRequestSent (s : State) : Result := State.plainEvent State.openWindow s

/-- HALT_ALL_SENT (R126). -/
def execHaltAllSent (s : State) : Result := State.event State.haltAllDone s

/-- REPLY_TIMEOUT (R113). -/
def execReplyTimeout (s : State) : Result := State.event State.timeOutReply s

/-- REPLY_GAP_TIMEOUT (R114). -/
def execReplyGapTimeout (s : State) : Result := State.event State.gapInReply s

/-- REPLY_CHARACTER_FAULT (R114): the character arrives, and what is wrong with it fails the attempt (log 14). -/
def execReplyCharacterFault (char : LineChar) (s : State) : Result := State.event (State.receiveChar char) s

/-- REPLY_CHARACTER_RECEIVED (R114, R116). -/
def execReplyCharacterReceived (char : LineChar) (s : State) : Result := State.event (State.receiveChar char) s

/-- REPLY_COMPLETE (R114): the characters of the reply not yet taken arrive, the last of them completing it (log 39). -/
def execReplyComplete (chars : List LineChar) (s : State) : Result :=
  State.event (fun s => chars.foldl (fun s c => s.receiveChar c) s) s

/-- RESEND_DELAY_END (R115). -/
def execResendDelayEnd (s : State) : Result := State.plainEvent State.resend s

/-- QUIET_WAIT_END (R116). -/
def execQuietWaitEnd (s : State) : Result := State.event State.endQuiet s

end Sys2Proof.Machine
end

