-- ==== Sys2Proof/Machine/Weather.lean ====
section
/-! DEFINITION. The Weather Monitor: the sample event (R24 to R37), the threat sources (R40 to R44), hand-offs, notices
and episode ends (R45 to R47), and the commands ANEMOMETER_PULSE, SAMPLE_EVENT and FORECAST_EXPIRY. -/

namespace Sys2Proof.Machine

/-! ## Stages 1 to 5 of the sample event (R24) -/

/-- The speed of a pulse count (R26). -/
def windSpeed (n factorK : Nat) : Nat := min (n * factorK / 64) 600

/-- A speed enters the ring, which holds up to 64 (R27). -/
def pushSpeed (ring : List Nat) (v : Nat) : List Nat :=
  if ring.length < 64 then ring ++ [v] else ring.drop 1 ++ [v]

/-- The sector of a Gray code, VANE2 first (R29). -/
def sectorOfCode (c : BitVec 3) : Nat :=
  match c.toNat with
  | 0 => 0
  | 1 => 1
  | 3 => 2
  | 2 => 3
  | 6 => 4
  | 7 => 5
  | 5 => 6
  | _ => 7

/-- The vane is read twice (R30). -/
def Weather.readVane (first second : BitVec 3) (w : Weather) : Weather :=
  if first = second then { w with direction := some (sectorOfCode first), disagree := 0 }
  else if w.disagree < 3 then { w with disagree := w.disagree + 1 }
  else { w with disagree := 4, direction := none }

/-- The class of a rain level (R33). -/
def classify (r : SiteRecord) (level : Nat) : RainClass :=
  if level ≤ r.shortLevel then .short
  else if r.openLevel ≤ level then .open
  else if level < r.wetLevel then .wet
  else .dry

/-- The seconds since the sensor entered its state have reached `limit` (R35). -/
def sinceReached (since : Option Nat) (now limit : Nat) : Bool :=
  match since with
  | none => false
  | some t => limit ≤ now - t

/-- An in-range sample of an enabled sensor outside FAULT (R35). -/
def RainSensor.inRange (r : SiteRecord) (now : Nat) (wet : Bool) (x : RainSensor) : RainSensor :=
  let y := { x with outRun := 0 }
  match x.state, wet with
  | .dry, true => { y with state := .wetting, since := some now }
  | .dry, false => y
  | .wetting, true => if sinceReached x.since now r.rainConfirm then { y with state := .wet, since := none } else y
  | .wetting, false => { y with state := .dry, since := none }
  | .wet, true => y
  | .wet, false => { y with state := .drying, since := some now }
  | .drying, true => { y with state := .wet, since := none }
  | .drying, false => if sinceReached x.since now r.dryConfirm then { y with state := .dry, since := none } else y
  | .fault, _ => y

/-- An out-of-range sample of an enabled sensor outside FAULT (R36). -/
def RainSensor.outOfRange (x : RainSensor) : RainSensor :=
  if 3 ≤ x.outRun + 1 then { x with state := .fault, since := none, outRun := 0, inRun := 0 }
  else { x with outRun := x.outRun + 1 }

/-- A sample of an enabled sensor in FAULT (R36). -/
def RainSensor.inFault (now : Nat) (kind : RainClass) (x : RainSensor) : RainSensor :=
  match kind with
  | .short | .open => { x with inRun := 0 }
  | .wet =>
    if 3 ≤ x.inRun + 1 then { x with state := .wetting, since := some now, inRun := 0 } else { x with inRun := x.inRun + 1 }
  | .dry =>
    if 3 ≤ x.inRun + 1 then { x with state := .dry, since := none, inRun := 0 } else { x with inRun := x.inRun + 1 }

/-- A sensor at a sample event: its level and class, and its move when it is enabled; a disabled sensor is held in DRY
(R33 to R36). -/
def RainSensor.sample (r : SiteRecord) (now : Nat) (enabled : Bool) (level : Nat) (x : RainSensor) : RainSensor :=
  let kind := classify r level
  let x := { x with level := level, kind := kind }
  if !enabled then { x with state := .dry, since := none, outRun := 0, inRun := 0 }
  else if x.state = .fault then x.inFault now kind
  else match kind with
    | .short | .open => x.outOfRange
    | .wet => x.inRange r now true
    | .dry => x.inRange r now false

/-- The sensor of input `k` is enabled (R34). -/
def SiteRecord.rainEnabled (r : SiteRecord) (k : Nat) : Bool := r.rainMask.getLsbD k

/-- Rain input `k`. -/
def Weather.input (w : Weather) (k : Nat) : RainSensor := w.rain[k]?.getD resetRain

/-- Rain input `k` after a sample with the given levels. -/
def Weather.sampled (r : SiteRecord) (now : Nat) (levels : Vector Nat 4) (w : Weather) (k : Nat) : RainSensor :=
  (w.input k).sample r now (r.rainEnabled k) (levels[k]?.getD 0)

/-- Some enabled sensor is in a state of the given kind. -/
def Weather.anySensor (r : SiteRecord) (w : Weather) (p : RainState → Bool) : Bool :=
  (List.range 4).any fun k => r.rainEnabled k && p (w.input k).state

/-- The rain conditions are evaluated (R37). -/
def Weather.evalRain (r : SiteRecord) (w : Weather) : Weather :=
  let unknown := r.rainMask != 0 && !w.anySensor r (fun x => x != .fault)
  let present := w.anySensor r (fun x => x == .wet || x == .drying) || (unknown && r.failClosed)
  { w with
    rainUnknown := unknown
    rainPresent := present
    firstDrop := w.anySensor r (fun x => x == .wetting || x == .wet || x == .drying) || present
    sensorFault := w.anySensor r (fun x => x == .fault) }

/-- Stage 4: the four rain inputs and the rain conditions (R33 to R37). -/
def Weather.sampleRain (r : SiteRecord) (now : Nat) (levels : Vector Nat 4) (w : Weather) : Weather :=
  Weather.evalRain r { w with
    rain := #v[w.sampled r now levels 0, w.sampled r now levels 1, w.sampled r now levels 2, w.sampled r now levels 3] }

/-- The sector distance (0.9). -/
def sectorDistance (a b : Nat) : Nat := min ((a - b) + (b - a)) (8 - ((a - b) + (b - a)))

/-- Exposed, windward or lee (R31). -/
def groupStatus (bearing : Bearing) (direction : Option Nat) : GroupStatus :=
  match bearing, direction with
  | .roof, _ => .exposed
  | .sector _, none => .windward
  | .sector b, some d => if sectorDistance d b ≤ 1 then .windward else .lee

/-- An effective limit (R32). -/
def effectiveLimit (status : GroupStatus) (limit margin : Nat) : Nat :=
  match status with
  | .exposed | .windward => limit
  | .lee => min (limit + margin) 600

/-- A clear threshold (R32). -/
def clearThreshold (limit : Nat) : Nat := limit * 7 / 8

/-- The status and effective limits of a group record (R31, R32). -/
def groupSample (r : SiteRecord) (direction : Option Nat) (g : GroupRecord) : GroupSample :=
  let status := groupStatus g.bearing direction
  ⟨status, effectiveLimit status g.gustLimit r.leeMargin, effectiveLimit status g.meanLimit r.leeMargin⟩

/-- The status and effective limits of group `g` as WEATHER-READ shows them: those of the last sample, and before the
first those of an UNKNOWN direction (R31, R32). -/
def State.groupSampleOf (s : State) (g : Nat) : GroupSample :=
  ((s.weather.samples[g]?).join).getD (groupSample s.site none (s.group g).active)

/-- Stages 1 and 2: the speed enters the ring, and the pulse count starts again at 0 (R26, R27). -/
def Weather.sampleWind (r : SiteRecord) (w : Weather) : Weather :=
  { w with ring := pushSpeed w.ring (windSpeed w.pulses r.factorK), pulses := 0 }

/-- Stage 5: forecasts that have run out are removed (R39). -/
def Weather.dropExpired (now : Nat) (w : Weather) : Weather :=
  { w with forecasts := w.forecasts.filter fun f => now < f.endsAt }

/-- Stages 1 to 5 (R24). -/
def Weather.takeSample (r : SiteRecord) (now : Nat) (first second : BitVec 3) (levels : Vector Nat 4) (w : Weather) :
    Weather :=
  (((w.sampleWind r).readVane first second).sampleRain r now levels).dropExpired now

/-- The samples of all eight groups, from their active copies (R31, R32). -/
def State.allSamples (s : State) (direction : Option Nat) : Vector (Option GroupSample) 8 :=
  let x := fun g => some (groupSample s.site direction (s.group g).active)
  #v[x 0, x 1, x 2, x 3, x 4, x 5, x 6, x 7]

/-! ## The threat sources (R41 to R44) -/

/-- The WIND source at a sample (R41). -/
def Threat.evalWind (now gust mean calmHold : Nat) (x : GroupSample) (t : Threat) : Threat :=
  match t.wind with
  | none =>
    if x.effGust ≤ gust || x.effMean ≤ mean then { t with wind := some now, calmSince := none } else t
  | some _ =>
    if gust < clearThreshold x.effGust && mean < clearThreshold x.effMean then
      let since := t.calmSince.getD now
      if calmHold ≤ now - since then { t with wind := none, calmSince := none } else { t with calmSince := some since }
    else { t with calmSince := none }

/-- The RAIN source at a sample (R42, R43). -/
def Threat.evalRain (now : Nat) (holds : Bool) (status : GroupStatus) (leeGrace : Nat) (t : Threat) : Threat :=
  match t.rain, holds with
  | none, false => t
  | none, true => { t with rain := some (if status = .lee then now + leeGrace else now) }
  | some _, false => { t with rain := none }
  | some d, true => if status != .lee && now < d then { t with rain := some now } else t

/-- The entry concerns group `g` and qualifies at its gust limit (R44). -/
def Forecast.bearsOn (f : Forecast) (g gustLimit : Nat) : Bool :=
  (f.mask == 0 || f.mask.getLsbD g) && (f.gust == 0 || gustLimit ≤ f.gust)

/-- The earliest lead deadline among the entries that concern and qualify (R44). -/
def forecastDeadline (l : List Forecast) (g gustLimit : Nat) : Option Nat :=
  l.foldl (fun d f => if f.bearsOn g gustLimit then earliest d (some f.leadDeadline) else d) none

/-- The FORECAST source (R44). -/
def Threat.evalForecast (l : List Forecast) (g gustLimit : Nat) (t : Threat) : Threat :=
  { t with forecast := forecastDeadline l g gustLimit }

/-- A source was raised (R45). -/
def wasRaised (old new : Option Nat) : Bool := old.isNone && new.isSome

/-- A source was raised, or its deadline moved earlier (R45). -/
def movedEarlier (old new : Option Nat) : Bool :=
  match old, new with
  | none, some _ => true
  | some a, some b => b < a
  | _, none => false

/-- The record is handed to the Closure Scheduler (R45). -/
def Threat.handsOff (old new : Threat) : Bool :=
  movedEarlier old.wind new.wind || movedEarlier old.rain new.rain || movedEarlier old.forecast new.forecast

/-- The episode start of the record after an event (R46, R47). -/
def Threat.withEpisode (now : Nat) (old new : Threat) : Threat :=
  if new.isEmpty then { new with episodeStart := none, calmSince := none }
  else if old.isEmpty then { new with episodeStart := some now }
  else new

/-! ## Hand-off, notice and episode end (R45 to R47) -/

/-- The hand-off of group `g`: a coverage check on each active member, in member-sequence order (R45, R54). -/
def State.handOff (g : Nat) (s : State) : State :=
  (s.group g).active.members.foldl (fun s i => s.coverage i) s

/-- The THREAT-CHANGE notice of a record (R46). -/
def Threat.notice (g : Nat) (t : Threat) : Notice := .threatChange g t.level t.sources t.deadline t.episodeStart

/-- The end of the group's episode clears the failure status of its active members (R47, R11). -/
def State.forgiveMembers (g : Nat) (s : State) : State :=
  (s.group g).active.members.foldl (fun s i => s.modLive i fun l => { l with failed := false }) s

/-- A group's record takes the values of an evaluation, with all that follows in the event (R45 to R48). -/
def State.updateThreat (g : Nat) (evaluated : Threat) (s : State) : State :=
  let old := s.threat g
  let new := Threat.withEpisode s.T old evaluated
  let s := s.setThreat g new
  let s := if wasRaised old.wind new.wind || wasRaised old.rain new.rain then s.weatherRaised else s
  let s := if old.handsOff new then s.handOff g else s
  let s := if new.level = old.level then s else s.placeNotice (new.notice g)
  if new.isEmpty && !old.isEmpty then s.forgiveMembers g else s

/-- The sources of group `g` at a sample, from its active copy `r` at the start of the event (R24 stage 6). -/
def State.sampleThreat (s : State) (r : GroupRecord) (g : Nat) : Threat :=
  let x := s.groupSampleOf g
  let w := s.weather
  (((s.threat g).evalWind s.T w.gust w.mean s.site.calmHold x).evalRain s.T
      (w.rainPresent || (r.firstDrop && w.firstDrop)) x.status r.leeGrace).evalForecast w.forecasts g r.gustLimit

/-- Stage 6 for the eight groups in order, with the active copies of the start of the event (R24). -/
def State.evalGroups (start : State) (s : State) : State :=
  (List.range 8).foldl (fun s g => s.updateThreat g (s.sampleThreat (start.group g).active g)) s

/-- The FORECAST sources of all groups are evaluated, in group order (R38, R39, R44, R45). -/
def State.evalForecasts (s : State) : State :=
  (List.range 8).foldl
    (fun s g => s.updateThreat g ((s.threat g).evalForecast s.weather.forecasts g (s.group g).active.gustLimit)) s

/-- A level flag follows its condition (R165). -/
def State.followLevel (f : AlertFlag) (holds : Bool) (s : State) : State :=
  if holds then s.raiseAlert f none else s.clearAlert f

/-- The sample event (R24). -/
def State.sample (first second : BitVec 3) (levels : Vector Nat 4) (s0 : State) : State :=
  let w := s0.weather.takeSample s0.site s0.T first second levels
  let s := { s0 with weather := { w with samples := s0.allSamples w.direction } }
  let s := if first = second then s else s.bump .vaneDisagree
  let s := s.followLevel .vaneUnknown w.vaneFault
  let s := s.followLevel .rainSensorFault w.sensorFault
  let s := State.evalGroups s0 s
  if s0.windOrRain && !s.windOrRain then s.weatherEnded else s

/-- A pulse on ANEMO (R26). -/
def State.countPulse (s : State) : State :=
  { s with weather := { s.weather with pulses := min (s.weather.pulses + 1) 4095 } }

/-- A forecast that has run out is removed (R39). -/
def State.expireForecast (ftag : Nat) (s : State) : State :=
  { s with weather := { s.weather with
      forecasts := s.weather.forecasts.filter fun f => !(f.ftag == ftag && f.endsAt ≤ s.T) } }

/-- ANEMOMETER_PULSE (R26). -/
def execAnemometerPulse (s : State) : Result := State.plainEvent State.countPulse s

/-- SAMPLE_EVENT (R24, R171). -/
def execSampleEvent (first second : BitVec 3) (levels : Vector Nat 4) (s : State) : Result :=
  State.whenDue s.due.sample (State.event fun s => State.sample first second levels s.takeSampleEvent) s

/-- FORECAST_EXPIRY (R39), of the entry with the given tag (log 6). -/
def execForecastExpiry (ftag : Nat) (s : State) : Result :=
  State.whenDue s.due.sample (State.plainEvent (State.expireForecast ftag)) s

end Sys2Proof.Machine
end

