-- ==== Sys2Proof/Machine/Supply.lean ====
section
/-! DEFINITION. The Supply Budget Unit: readings and Beff (R80, R81), cutoff (R82 to R86), the ends of inrush and
residual reservations (R88, R91), and its commands. -/

namespace Sys2Proof.Machine

/-- A reading enters the ring, which holds up to 4 (R80). -/
def pushReading (ring : List Nat) (v : Nat) : List Nat :=
  if ring.length < 4 then ring ++ [v] else ring.drop 1 ++ [v]

/-- The reading of a conversion: above 400 it is 400 (R80). -/
def supplyReading (raw : Nat) : Nat := min raw 400

/-- Step 1 of the supply event: the reading is entered, and a rise of Beff triggers the walk (R80, R81). -/
def State.enterReading (v : Nat) (s : State) : State :=
  let s' := { s with supply := { s.supply with ring := pushReading s.supply.ring v } }
  if s.beff < s'.beff then s'.triggerWalk else s'

/-- The line's part of the beginning of a cutoff: every DRIVE and HALT that waits is purged, the pending-halt list is
cleared, and a HALT-ALL is placed unless one waits (R83, R125). -/
def State.purgeLine (s : State) : State :=
  let q := s.line.queue.filter fun r => !(r.isDrive || r.isHalt)
  { s with line := { s.line with
      queue := if q.contains .haltAll then q else q ++ [.haltAll], pendingHalts := [], newHalts := [] } }

/-- Every entry that is not RESIDUAL is marked for release at HALT-ALL (R83). -/
def State.markReservations (s : State) : State :=
  { s with reserv := s.reserv.map fun r => if r.phase.isResidual then r else { r with marked := true } }

/-- No halt is owed to the opening's job any longer: its pending halt is withdrawn, and a HALT that an apply of the
cutoff's own event has placed behind the purge goes with it (R83, R84, R122; log 12). -/
def State.withdrawHalt (i : Nat) (s : State) : State :=
  State.unpend i (s.filterQueue fun r => !(r.isHalt && r.opening? == some i))

/-- A job that a cutoff returns to QUEUED keeps all but its state, its started at and its halt (R84). -/
def State.cutoffReturn (j new : Job) (s : State) : State :=
  (s.withdrawHalt j.opening).returnJob j { new with state := .queued, startedAt := none }

/-- The beginning of a cutoff deals with a job by its state (R84). -/
def State.cutoffJob (i : Nat) (s : State) : State :=
  match s.job? i with
  | none => s
  | some j =>
    match j.state with
    | .queued | .retryWait _ => s
    | .announcing => s.cutoffReturn j j |>.removeWarning i
    | .dispatching | .running => s.cutoffReturn j j
    | .stopping .cancelled => s.endJob j .cancelled
    | .stopping .halted => s.endJob j .halted
    | .stopping .requeueClose => s.cutoffReturn j { j with target := 0 }
    | .stopping .failedTimeout => if s.isHeld i then s.endJob j .cancelled else s.cutoffReturn j j

/-- Cutoff begins (R83, R84): the line, the marks, the jobs in queue order, then SUPPLY_LOW and CUTOFFS (log 12). -/
def State.beginCutoff (s : State) : State :=
  let s := { s with supply := { s.supply with cutoff := true, lowRun := 0 } }
  let s := State.markReservations s.purgeLine
  let s := (s.jobs.map (·.opening)).foldl (fun s i => s.cutoffJob i) s
  State.bump .cutoffs (s.raiseAlert .supplyLow none)

/-- Cutoff ends (R86). -/
def State.endCutoff (s : State) : State :=
  State.triggerWalk (State.clearAlert .supplyLow { s with supply := { s.supply with cutoff := false } })

/-- Step 2 of the supply event: the cutoff test or the cutoff exit test (R82, R86). -/
def State.testCutoff (v : Nat) (s : State) : State :=
  if s.supply.cutoff then
    if s.site.cutoffVoltage + 10 ≤ v then s.endCutoff else s
  else if v ≤ s.site.cutoffVoltage then
    if 3 ≤ s.supply.lowRun + 1 then s.beginCutoff
    else { s with supply := { s.supply with lowRun := s.supply.lowRun + 1 } }
  else { s with supply := { s.supply with lowRun := 0 } }

/-- The entry is in INRUSH and its expiry has been reached (R88). -/
def Reservation.inrushOver (now : Nat) (r : Reservation) : Bool :=
  match r.phase with
  | .inrush e => e ≤ now
  | .inrushWait | .run | .residual _ => false

/-- The entry is RESIDUAL and its expiry has been reached (R91). -/
def Reservation.residualOver (now : Nat) (r : Reservation) : Bool :=
  match r.phase with
  | .residual e => e ≤ now
  | .inrushWait | .inrush _ | .run => false

/-- The entries chosen by `pick` whose inrush is over go to RUN, and the walk is triggered (R88). -/
def State.endInrush (pick : Nat → Bool) (s : State) : State :=
  let ended := fun r : Reservation => pick r.opening && r.inrushOver s.tenths
  let s' := { s with
    reserv := s.reserv.map fun r => if ended r then { r with phase := .run, amount := (s.cfg r.opening).run } else r }
  if s.reserv.any ended then s'.triggerWalk else s'

/-- The entries chosen by `pick` whose residual time is over are released (R91). -/
def State.endResidual (pick : Nat → Bool) (s : State) : State :=
  let ended := fun r : Reservation => pick r.opening && r.residualOver s.tenths
  let s' := { s with reserv := s.reserv.filter fun r => !ended r }
  if s.reserv.any ended then s'.triggerWalk else s'

/-- The supply event (R80). -/
def State.supply100ms (raw : Nat) (s : State) : State :=
  let v := supplyReading raw
  State.endResidual (fun _ => true) (State.endInrush (fun _ => true) ((s.enterReading v).testCutoff v))

/-- SUPPLY_EVENT (R80, R171). -/
def execSupplyEvent (reading : Nat) (s : State) : Result :=
  State.whenDue s.due.supply (State.event fun s => State.supply100ms reading s.takeSupply) s

/-- INRUSH_END (R88), of the entry of the given opening (log 6). -/
def execInrushEnd (opening : Nat) (s : State) : Result :=
  State.whenDue s.due.supply (State.event (State.endInrush (· == opening))) s

/-- RESIDUAL_EXPIRY (R91), of the entry of the given opening (log 6). -/
def execResidualExpiry (opening : Nat) (s : State) : Result :=
  State.whenDue s.due.supply (State.event (State.endResidual (· == opening))) s

end Sys2Proof.Machine
end

