-- ==== Sys2Proof/Machine/Scheduler.lean ====
section
/-! DEFINITION. The Closure Scheduler's supervision (R66, R67, R71, R77) and its commands. -/

namespace Sys2Proof.Machine

/-- The end of the opening's RETRY_WAIT, once retry at has been reached (R66). -/
def State.endRetryWait (i : Nat) (s : State) : State :=
  match s.job? i with
  | none => s
  | some j =>
    match j.state with
    | .retryWait t => if t ≤ s.T then s.returnJob j { j with state := .queued } else s
    | .queued | .announcing | .dispatching | .running | .stopping _ => s

/-- The job has run longer than twice its estimate and 10 s (R67). -/
def Job.timedOut (now : Nat) (j : Job) : Bool :=
  match j.startedAt with
  | none => false
  | some t => 2 * j.estimate + 10 < now - t

/-- The motion timeout of the opening's RUNNING job (R67). -/
def State.timeOutMotion (i : Nat) (s : State) : State :=
  match s.job? i with
  | none => s
  | some j => if j.state = .running && j.timedOut s.T then s.haltJob j j .failedTimeout else s

/-- Deadline supervision of the opening's job (R71). -/
def State.missDeadline (i : Nat) (s : State) : State :=
  match s.job? i with
  | none => s
  | some j =>
    if !j.missed && j.deadline < s.T then
      State.bump .deadlinesMissed (State.raiseAlert .deadlineMissed (some i) (s.putJob { j with missed := true }))
    else s

/-- The opening leaves the held list, and a coverage check runs for it (R77). -/
def State.unhold (i : Nat) (s : State) : State :=
  State.coverage i { s with held := s.held.filter (·.opening != i) }

/-- The expiry of the opening's hold, once it has been reached (R77). -/
def State.expireHold (i : Nat) (s : State) : State :=
  match s.heldUntil i with
  | none => s
  | some t => if t ≤ s.T then s.unhold i else s

/-- The openings that have a job, in queue order. -/
def State.jobOpenings (s : State) : List Nat := s.jobs.map (·.opening)

/-- The supervision event: retry waits, motion timeouts, deadlines and hold expiries (R66, R67, R71, R77; log 10). -/
def State.supervise (s : State) : State :=
  let s := s.jobOpenings.foldl (fun s i => s.endRetryWait i) s
  let s := s.jobOpenings.foldl (fun s i => s.timeOutMotion i) s
  let s := s.jobOpenings.foldl (fun s i => s.missDeadline i) s
  (s.held.map (·.opening)).foldl (fun s i => s.expireHold i) s

/-- SUPERVISION_EVENT (R66, R67, R71, R77, R171). -/
def execSupervisionEvent (s : State) : Result :=
  State.whenDue s.due.supervision (State.event fun s => State.supervise s.takeSupervision) s

/-- RETRY_WAIT_END (R66), of the given opening's job (log 6). -/
def execRetryWaitEnd (opening : Nat) (s : State) : Result :=
  State.whenDue s.due.supervision (State.event (State.endRetryWait opening)) s

/-- MOTION_TIMEOUT (R67), of the given opening's job (log 6). -/
def execMotionTimeout (opening : Nat) (s : State) : Result :=
  State.whenDue s.due.supervision (State.event (State.timeOutMotion opening)) s

/-- DEADLINE_MISSED (R71), of the given opening's job (log 6). -/
def execDeadlineMissed (opening : Nat) (s : State) : Result :=
  State.whenDue s.due.supervision (State.plainEvent (State.missDeadline opening)) s

/-- HOLD_EXPIRY (R77), of the given opening's hold (log 6). -/
def execHoldExpiry (opening : Nat) (s : State) : Result :=
  State.whenDue s.due.supervision (State.event (State.expireHold opening)) s

end Sys2Proof.Machine
end

