-- ==== Sys2Proof/Machine/Panel.lean ====
section
/-! DEFINITION. Warning Outputs' 100 ms event (R96, R99), the desk panel (R101 to R105), and their commands. -/

namespace Sys2Proof.Machine

/-- The warning entry of the opening has reached its end (R96). -/
def State.warningOver (s : State) (i : Nat) : Bool := s.warnings.any fun w => w.opening == i && w.endsAt ≤ s.tenths

/-- The opening's warning ends if its time has come (R96). -/
def State.endWarningIfOver (i : Nat) (s : State) : State := if s.warningOver i then s.endWarning i else s

/-- The 100 ms event of Warning Outputs: the cadences, then the ends of warnings in order of opening number (R96, R99;
log 11). -/
def State.warnings100ms (s : State) : State :=
  (s.warnings.map (·.opening)).foldl (fun s i => s.endWarningIfOver i) (State.beatZones s.due.turned s.takeWarnings)

/-- The phase of a pulsed zone that is SOUNDING turns over at the fifth count (R99), taken out of the 100 ms event next
in turn; that event then does not count for the zone again (log 7). -/
def State.turnCadence (z : Nat) (s : State) : State :=
  if 4 ≤ (s.zone z).count && (s.zone z).sounding && s.site.cadence z == .pulsed && !s.due.turned.contains z then
    { s with
      zones := s.zones.setIfInBounds z (s.zone z).beat
      due := { s.due with turned := s.due.turned ++ [z] } }
  else s

/-! ## The panel -/

/-- FAST, SLOW, ON, OFF as numbers, FAST the highest (R105). -/
def LampState.code : LampState → Nat
  | .off => 0
  | .on => 1
  | .slow => 2
  | .fast => 3

/-- The higher of two lamp states (R105). -/
def LampState.higher (a b : LampState) : LampState := if a.code ≤ b.code then b else a

/-- What an enabled opening contributes to its lamp (R103). -/
def State.openingLamp (s : State) (i : Nat) : LampState :=
  if (s.live i).failed || s.isHeld i || !((s.node i).presence == .present) || (s.live i).lastOutcome.isFailure then .fast
  else if (s.job? i).isSome then .slow
  else if s.closed i then .off
  else .on

/-- Some enabled opening's node is not PRESENT (R104). -/
def State.lineFault (s : State) : Bool :=
  (List.range 48).any fun i => (s.cfg i).enabled && !((s.node i).presence == .present)

/-- What the rain lamp shows (R104). -/
def State.rainLampState (s : State) : LampState := if s.threats.toList.any (·.rain.isSome) then .on else .off

/-- What the wind lamp shows (R104). -/
def State.windLampState (s : State) : LampState := if s.threats.toList.any (·.wind.isSome) then .on else .off

/-- What the line-fault lamp shows (R104). -/
def State.faultLampState (s : State) : LampState := if s.lineFault then .fast else .off

/-- What the supply lamp shows (R104). -/
def State.supplyLampState (s : State) : LampState :=
  if s.supply.cutoff then .fast else if s.beff < s.site.budget then .slow else .off

/-- What a summary lamp field contributes to lamp `n`. -/
def summaryTo (n : Nat) (field : Option Nat) (x : LampState) : LampState := if field = some n then x else .off

/-- What opening `i` contributes to lamp `n` (R103). -/
def State.openingTo (s : State) (n i : Nat) : LampState :=
  if (s.cfg i).enabled && (s.cfg i).lamp == some n then s.openingLamp i else .off

/-- The state of lamp `n`: the highest of its contributions, OFF when there is none (R105). -/
def State.lampState (s : State) (n : Nat) : LampState :=
  let summary := ((summaryTo n s.site.rainLamp s.rainLampState).higher
    (summaryTo n s.site.windLamp s.windLampState)).higher
      ((summaryTo n s.site.faultLamp s.faultLampState).higher (summaryTo n s.site.supplyLamp s.supplyLampState))
  (List.range 48).foldl (fun x i => x.higher (s.openingTo n i)) summary

/-- The 1 Hz blink phase is lit (R102). -/
def slowBlinkLit (divider : Nat) : Bool := divider % 32768 < 16384

/-- The 4 Hz blink phase is lit (R102). -/
def fastBlinkLit (divider : Nat) : Bool := divider % 8192 < 4096

/-- A frame begins: the 64 lamp states are evaluated and the blink phases taken, and the scan begins at PSCAN0 (R101,
R102, R105). -/
def State.beginFrame (s : State) : State :=
  { s with panel :=
      { lamps := ⟨⟨(List.range 64).map s.lampState⟩, by simp⟩
        slowLit := slowBlinkLit s.divider
        fastLit := fastBlinkLit s.divider
        cycles := 0 } }

/-- One more crystal cycle of the frame, counted up to the last whole one of its 16 ms (R101). -/
def Panel.tick (p : Panel) : Panel := { p with cycles := min (p.cycles + 1) 524 }

/-- The active scan line: each is active for 2 ms, in the order PSCAN0 to PSCAN7 (R101). -/
def Panel.scanLine (p : Panel) : Nat := min (p.cycles * 500 / 32768) 7

/-- Lamp `n` is lit in the present frame (R102). -/
def Panel.lit (p : Panel) (n : Nat) : Bool :=
  match p.lamps[n]?.getD .off with
  | .off => false
  | .on => true
  | .slow => p.slowLit
  | .fast => p.fastLit

/-! ## Commands -/

/-- WARNING_END (R96), of the given opening's warning (log 6). -/
def execWarningEnd (opening : Nat) (s : State) : Result :=
  State.whenDue s.due.warnings (State.event (State.endWarningIfOver opening)) s

/-- WARNING_OUTPUTS_100MS_EVENT (R96, R99, R171). -/
def execWarningOutputs100msEvent (s : State) : Result :=
  State.whenDue s.due.warnings (State.event State.warnings100ms) s

/-- CADENCE_TURNOVER (R99), of the given zone: the count that reaches 5 (log 7). -/
def execCadenceTurnover (zone : Nat) (s : State) : Result :=
  State.whenDue s.due.warnings (State.plainEvent (State.turnCadence zone)) s

/-- PANEL_FRAME (R105). -/
def execPanelFrame (s : State) : Result := State.plainEvent State.beginFrame s

end Sys2Proof.Machine
end

