-- ==== Sys2Proof/Machine/Replies.lean ====
section
/-! DEFINITION. What the host sees, to the byte: the codes of R151 and R158, the records as they travel (R159, R161), the
replies that read the part (R160 to R164), and the notices (R157). -/

namespace Sys2Proof.Machine

/-! ## Codes (R151, R158) -/

def JobState.code : JobState → Nat
  | .queued => 0
  | .announcing => 1
  | .dispatching => 2
  | .running => 3
  | .stopping _ => 4
  | .retryWait _ => 5

def AfterStop.code : AfterStop → Nat
  | .requeueClose => 0
  | .cancelled => 1
  | .halted => 2
  | .failedTimeout => 3

/-- The after-stop of a job, 255 outside STOPPING (R162). -/
def JobState.afterStopCode : JobState → Nat
  | .stopping a => a.code
  | .queued | .announcing | .dispatching | .running | .retryWait _ => 255

def JobOutcome.code : JobOutcome → Nat
  | .none => 0
  | .done => 1
  | .failedObstructed => 2
  | .failedTimeout => 3
  | .failedNodeLost => 4
  | .cancelled => 5
  | .halted => 6

def Motion.code : Motion → Nat
  | .stopped => 0
  | .opening => 1
  | .closing => 2

/-- The faults as a sum (R151). -/
def NodeFaults.code (f : NodeFaults) : Nat := flagsNat [f.edge, f.stall, f.overtemp, f.lowSupply]

def Presence.code : Presence → Nat
  | .hunt => 0
  | .probation => 1
  | .present => 2

def RainClass.code : RainClass → Nat
  | .short => 0
  | .open => 1
  | .wet => 2
  | .dry => 3

def RainState.code : RainState → Nat
  | .dry => 0
  | .wetting => 1
  | .wet => 2
  | .drying => 3
  | .fault => 4

def GroupStatus.code : GroupStatus → Nat
  | .exposed => 0
  | .windward => 1
  | .lee => 2

/-- The source set as a sum (R151). -/
def SourceSet.code (x : SourceSet) : Nat := flagsNat [x.wind, x.rain, x.forecast]

def ThreatLevel.code : ThreatLevel → Nat
  | .none => 0
  | .forecast => 1
  | .rain => 2
  | .wind => 3

def LineRequest.code : LineRequest → Nat
  | .poll _ _ => 0
  | .drive _ _ _ => 1
  | .halt _ _ => 2
  | .ident _ _ => 3
  | .haltAll => 4

def FailureKind.code : FailureKind → Nat
  | .parity => 0
  | .framing => 1
  | .overrun => 2
  | .check => 3
  | .mismatch => 4
  | .timeout => 5
  | .waitExhausted => 6

def Handover.code : Handover → Nat
  | .line => 0
  | .deferred => 1
  | .draining => 2
  | .granted => 3
  | .guarding => 4

def StoreState.code : StoreState → Nat
  | .idle => 0
  | .erasing _ _ => 1
  | .programming _ => 2

def Tone.code : Tone → Nat
  | .hz512 => 0
  | .hz1024 => 1
  | .hz2048 => 2
  | .hz4096 => 3

def Cadence.code : Cadence → Nat
  | .continuous => 0
  | .pulsed => 1

/-- The value of a result code (R158). -/
def ResultCode.value : ResultCode → Nat
  | .ok => 0
  | .clamped => 1
  | .accepted => 2
  | .badLength => 3
  | .badValue => 4
  | .unknownType => 5
  | .noSuchOpening => 6
  | .noSuchGroup => 7
  | .noSuchTag => 8
  | .noJob => 9
  | .busy => 10
  | .weatherLock => 11
  | .chainBusy => 12
  | .notCancellable => 13
  | .tooLate => 14
  | .full => 15
  | .held => 16
  | .notPresent => 17
  | .conflict => 18
  | .locked => 19
  | .noImage => 20

def StartCause.code : StartCause → Nat
  | .power => 0
  | .pin => 1
  | .restart => 2

def StoreOp.code : StoreOp → Nat
  | .save => 0
  | .erase => 1

def StoreOutcome.code : StoreOutcome → Nat
  | .ok => 0
  | .eraseFail => 1
  | .programFail => 2

/-- Bearing ROOF travels as 8 (R151). -/
def Bearing.code : Bearing → Nat
  | .sector n => n
  | .roof => 8

/-! ## Records as they travel -/

/-- The configured fields as OPENING-WRITE carries them (section 8.5). -/
def OpeningCfg.wire (c : OpeningCfg) : OpeningWire where
  enabled := c.enabled
  reachable := c.reachable
  address := c.address
  travel := c.travel
  tolerance := c.tolerance
  speed := c.speed
  inrush := c.inrush
  run := c.run
  inrushDuration := c.inrushDuration
  zone := c.zone.getD 255
  lamp := c.lamp.getD 255

/-- The configured fields that a wire record stands for; 255 means none. -/
def cfgOfWire (w : OpeningWire) : OpeningCfg where
  enabled := w.enabled
  address := w.address
  travel := w.travel
  tolerance := w.tolerance
  speed := w.speed
  inrush := w.inrush
  run := w.run
  inrushDuration := w.inrushDuration
  reachable := w.reachable
  zone := optionOf w.zone
  lamp := optionOf w.lamp

/-- A group copy as GROUP-WRITE carries it (section 8.5). -/
def GroupRecord.wire (r : GroupRecord) : GroupWire where
  bearing := r.bearing.code
  chained := r.chained
  firstDrop := r.firstDrop
  gustLimit := r.gustLimit
  meanLimit := r.meanLimit
  leeGrace := r.leeGrace
  members := r.members

/-- The group copy that a wire record stands for. -/
def groupOfWire (w : GroupWire) : GroupRecord where
  bearing := if w.bearing = 8 then .roof else .sector w.bearing
  chained := w.chained
  members := w.members
  gustLimit := w.gustLimit
  meanLimit := w.meanLimit
  leeGrace := w.leeGrace
  firstDrop := w.firstDrop

/-- The tone of a code (R151). -/
def toneOfCode (n : Nat) : Tone :=
  match n with
  | 0 => .hz512
  | 1 => .hz1024
  | 2 => .hz2048
  | _ => .hz4096

/-- The cadence of a code (R151). -/
def cadenceOfCode (n : Nat) : Cadence := if n = 0 then .continuous else .pulsed

/-- The site record as it travels (R159). -/
def SiteRecord.wire (r : SiteRecord) : SiteWire where
  factorK := r.factorK
  leeMargin := r.leeMargin
  calmHold := r.calmHold
  rainMask := r.rainMask.toNat
  shortLevel := r.shortLevel
  wetLevel := r.wetLevel
  openLevel := r.openLevel
  rainConfirm := r.rainConfirm
  dryConfirm := r.dryConfirm
  forecastMargin := r.forecastMargin
  retryLimit := r.retryLimit
  retryDelay := r.retryDelay
  manualAllowance := r.manualAllowance
  budget := r.budget
  derateStart := r.derateStart
  cutoffVoltage := r.cutoffVoltage
  warningInterval := r.warningInterval
  failClosed := r.failClosed
  soundMoving := r.soundMoving
  tones := r.tones.map Tone.code
  cadences := r.cadences.map Cadence.code
  rainLamp := r.rainLamp.getD 255
  windLamp := r.windLamp.getD 255
  faultLamp := r.faultLamp.getD 255
  supplyLamp := r.supplyLamp.getD 255
  replyTimeout := r.replyTimeout
  alertMask := r.alertMask.toNat

/-- The site record that a wire record stands for; the unused bits of the two masks are disregarded (section 8.5). -/
def siteOfWire (w : SiteWire) : SiteRecord where
  factorK := w.factorK
  leeMargin := w.leeMargin
  calmHold := w.calmHold
  rainMask := BitVec.ofNat 4 w.rainMask
  shortLevel := w.shortLevel
  wetLevel := w.wetLevel
  openLevel := w.openLevel
  rainConfirm := w.rainConfirm
  dryConfirm := w.dryConfirm
  forecastMargin := w.forecastMargin
  retryLimit := w.retryLimit
  retryDelay := w.retryDelay
  manualAllowance := w.manualAllowance
  budget := w.budget
  derateStart := w.derateStart
  cutoffVoltage := w.cutoffVoltage
  warningInterval := w.warningInterval
  failClosed := w.failClosed
  soundMoving := w.soundMoving
  tones := w.tones.map toneOfCode
  cadences := w.cadences.map cadenceOfCode
  rainLamp := optionOf w.rainLamp
  windLamp := optionOf w.windLamp
  faultLamp := optionOf w.faultLamp
  supplyLamp := optionOf w.supplyLamp
  replyTimeout := w.replyTimeout
  alertMask := BitVec.ofNat 11 w.alertMask

/-! ## STATUS-READ (R160) -/

/-- The entries of the reservation table in a phase, marked ones with the rest (R92). -/
def State.entriesIn (s : State) (p : ResPhase → Bool) : Nat := (s.reserv.filter fun r => p r.phase).length

def ResPhase.isInrushWait : ResPhase → Bool
  | .inrushWait => true
  | .inrush _ | .run | .residual _ => false

def ResPhase.isInrush : ResPhase → Bool
  | .inrush _ => true
  | .inrushWait | .run | .residual _ => false

def ResPhase.isRun : ResPhase → Bool
  | .run => true
  | .inrushWait | .inrush _ | .residual _ => false

/-- State, cadence phase and holders of zone `z` (R106). -/
def State.zoneBytes (s : State) (z : Nat) : List Byte :=
  [flagsByte [(s.zone z).sounding], flagsByte [(s.zone z).phaseOn], byteOf (s.holders z)]

/-- Byte `k` of the lamp states: lamp 4k + j in bits 2j and 2j + 1 (R160). -/
def Panel.lampByte (p : Panel) (k : Nat) : Byte :=
  let c := fun j => (p.lamps[4 * k + j]?.getD .off).code
  byteOf (c 0 + 4 * c 1 + 16 * c 2 + 64 * c 3)

/-- The request in flight: kind, address, attempt and resend count (R133). -/
def flightBytes (f : Option Flight) : List Byte :=
  match f with
  | none => [byteOf 255, byteOf 0, byteOf 0, byteOf 0]
  | some f => [byteOf f.request.code, byteOf f.request.address, byteOf f.attempt, byteOf f.resends]

/-- The enabled openings whose nodes are in a presence state (R149). -/
def State.nodesIn (s : State) (p : Presence) : Nat :=
  ((List.range 48).filter fun i => (s.cfg i).enabled && (s.node i).presence == p).length

/-- Offsets 0 to 29: Time Base, alerts, supply, reservations and jobs (R160). -/
def State.statusHead (s : State) : List Byte :=
  be32 s.T ++ be16 s.alerts.toNat
    ++ be16 s.supply.last ++ [byteOf s.supply.ring.length] ++ be16 s.supply.volts
    ++ be16 s.site.budget ++ be16 s.site.derateStart ++ be16 s.site.cutoffVoltage ++ be16 s.beff
    ++ [flagsByte [s.supply.cutoff], byteOf s.supply.lowRun]
    ++ be16 (reservedSum s.reserv)
    ++ [byteOf (s.entriesIn (·.isInrushWait)), byteOf (s.entriesIn (·.isInrush)), byteOf (s.entriesIn (·.isRun)),
        byteOf (s.entriesIn (·.isResidual)), byteOf (s.reserv.filter (·.marked)).length,
        byteOf s.jobs.length, byteOf s.held.length]

/-- Offsets 30 to 58: zones, warnings and lamps (R106, R160). -/
def State.statusOutputs (s : State) : List Byte :=
  s.zoneBytes 0 ++ s.zoneBytes 1 ++ s.zoneBytes 2 ++ s.zoneBytes 3 ++ [byteOf s.warnings.length]
    ++ (List.range 16).map s.panel.lampByte

/-- Offsets 59 to 75: the line, the nodes and the store (R133, R149, R174, R160). -/
def State.statusTail (s : State) : List Byte :=
  [byteOf (s.line.queue.filter (·.inHaltClass)).length, byteOf (s.line.queue.filter (·.isDrive)).length,
      byteOf (searchCount s.line.queue)]
    ++ flightBytes s.line.flight
    ++ [byteOf s.line.pendingHalts.length, byteOf s.line.seq, byteOf s.line.handover.code,
        byteOf (s.nodesIn .hunt), byteOf (s.nodesIn .probation), byteOf (s.nodesIn .present),
        byteOf ((List.range 48).filter fun i => (s.node i).owed).length, flagsByte [s.countingPaused],
        byteOf s.store.state.code, flagsByte [s.store.valid, s.store.lock]]

/-- The 76 bytes of STATUS-READ (R160). -/
def State.statusBytes (s : State) : List Byte := s.statusHead ++ s.statusOutputs ++ s.statusTail

/-! ## The records of one item (R161) -/

/-- A position as it travels, UNKNOWN as FFFFh (R151). -/
def positionBytes (p : Option Nat) : List Byte := be16 (p.getD 65535)

/-- The 31 bytes of OPENING-READ (R161). -/
def State.openingBytes (s : State) (i : Nat) : List Byte :=
  let l := s.live i
  [byteOf i] ++ (s.cfg i).wire.bytes ++ positionBytes l.position
    ++ [flagsByte [l.stale, l.failed], byteOf l.motion.code, byteOf l.faults.code]
    ++ be16 (l.reportedTravel.getD 0)
    ++ [byteOf l.lastOutcome.code] ++ beTime (s.heldUntil i) ++ beTime l.lastAnnounced
    ++ be16 (s.effTravel i) ++ [byteOf (s.node i).presence.code]

/-- The 12 bytes and the members of GROUP-READ (R161). -/
def State.groupBytes (s : State) (g copy : Nat) : List Byte :=
  let x := s.group g
  [byteOf g, byteOf copy, flagsByte [x.applyRequested]]
    ++ (if copy = 0 then x.active else x.pendingCopy).wire.bytes

/-- Four pairs of address mark and value, those beyond the characters received as 0 (R161). -/
def capturePairs (chars : List (Bool × Byte)) : List Byte :=
  ((chars ++ List.replicate 4 (false, 0#8)).take 4).flatMap fun c => [flagsByte [c.1], c.2]

/-- The capture bytes of NODE-READ (R118, R161). -/
def captureBytes (c : Option Capture) : List Byte :=
  match c with
  | none => List.replicate 14 0#8
  | some c => [byteOf c.kind.code] ++ be32 c.time ++ [byteOf c.received] ++ capturePairs c.chars

/-- The capture of a node address. -/
def State.captureOf (s : State) (address : Nat) : Option Capture := (s.line.captures[address]?).join

/-- The 29 bytes of NODE-READ (R149, R161). A last current of none is sent as 255 (log 26). -/
def State.nodeBytes (s : State) (i : Nat) : List Byte :=
  let n := s.node i
  let c := s.captureOf (s.cfg i).address
  [byteOf i, byteOf (s.cfg i).address,
      flagsByte [(s.cfg i).enabled, n.owed, n.coverageOwed, n.lastCurrent.isSome, c.isSome],
      byteOf n.presence.code, byteOf n.success, byteOf n.failure]
    ++ be32 n.dueAt ++ [byteOr255 n.lastCurrent]
    ++ be16 ((s.live i).reportedTravel.getD 0) ++ be16 (s.effTravel i) ++ captureBytes c

/-! ## JOBS-READ (R162) -/

/-- The job is reported blocked (R78). -/
def State.blocked (s : State) (j : Job) : Bool := j.state == .queued && !s.chainReady j.opening

/-- A job summary, 19 bytes (R162). -/
def State.jobSummary (s : State) (j : Job) : List Byte :=
  [byteOf j.opening] ++ be16 j.target ++ [byteOf j.rank.code] ++ be32 j.deadline ++ be16 j.estimate ++ beKey j.key
    ++ [byteOf j.state.code, byteOf j.state.afterStopCode, byteOf j.retries,
        flagsByte [j.missed, s.haltPending j.opening, s.blocked j, j.tag.isSome], byteOf (j.tag.getD 0)]

/-- The data of JOBS-READ (R162). -/
def State.jobsBytes (s : State) (start : Nat) : List Byte :=
  let shown := (s.jobs.drop start).take 8
  [byteOf s.jobs.length, byteOf shown.length] ++ shown.flatMap s.jobSummary

/-! ## WEATHER-READ (R163) -/

/-- The bytes of rain input `k` (R163). -/
def State.rainBytes (s : State) (k : Nat) : List Byte :=
  let x := s.weather.input k
  be16 x.level ++ [byteOf x.kind.code, flagsByte [s.site.rainEnabled k], byteOf x.state.code]

/-- The 16 bytes of a forecast entry (R163). -/
def Forecast.bytes (f : Forecast) : List Byte :=
  [byteOf f.ftag] ++ be32 f.onsetAt ++ be32 f.endsAt ++ be16 f.gust ++ [byteOf f.mask.toNat] ++ be32 f.leadDeadline

/-- Part 0: wind, rain and forecasts (R163). -/
def State.weatherPart0 (s : State) : List Byte :=
  let w := s.weather
  [byteOf 0] ++ be16 w.speed ++ be16 w.gust ++ be16 w.mean
    ++ [byteOf w.ring.length, byteOf (w.direction.getD 8), byteOf w.disagree]
    ++ s.rainBytes 0 ++ s.rainBytes 1 ++ s.rainBytes 2 ++ s.rainBytes 3
    ++ [flagsByte [w.rainPresent, w.firstDrop, w.rainUnknown, w.sensorFault], byteOf w.forecasts.length]
    ++ w.forecasts.flatMap Forecast.bytes

/-- The 33 bytes of group `g` (R163). -/
def State.threatBytes (s : State) (g : Nat) : List Byte :=
  let x := s.groupSampleOf g
  let t := s.threat g
  [byteOf g, byteOf x.status.code] ++ be16 x.effGust ++ be16 x.effMean
    ++ [byteOf t.sources.code, byteOr255 (t.rank.map Rank.code), byteOf t.level.code]
    ++ beTime t.wind ++ beTime t.rain ++ beTime t.forecast ++ beTime t.calmSince ++ beTime t.deadline
    ++ beTime t.episodeStart

/-- Parts 1 and 2: groups 0 to 3 and 4 to 7 (R163). -/
def State.weatherBytes (s : State) (part : Nat) : List Byte :=
  if part = 0 then s.weatherPart0
  else
    let g := 4 * (part - 1)
    [byteOf part] ++ s.threatBytes g ++ s.threatBytes (g + 1) ++ s.threatBytes (g + 2) ++ s.threatBytes (g + 3)

/-! ## Counters and alerts (R164) -/

/-- The 36 bytes of the counters (R164). -/
def State.counterBytes (s : State) : List Byte := s.counters.toList.flatMap be16

/-- The alert flags as two bytes (R151). -/
def State.alertBytes (s : State) : List Byte := be16 s.alerts.toNat

/-! ## Records sent (R155, R157) -/

/-- The type of a notice (R157). -/
def Notice.typeCode : Notice → Nat
  | .started _ => 0x40
  | .threatChange _ _ _ _ _ => 0x41
  | .jobOutcome _ _ _ _ _ _ _ _ => 0x42
  | .alertRaised _ _ => 0x43
  | .applyDone _ _ => 0x44
  | .storeDone _ _ => 0x45

/-- The payload of a notice (R157). -/
def Notice.payload : Notice → List Byte
  | .started cause => [byteOf cause.code]
  | .threatChange g level sources deadline episode =>
    [byteOf g, byteOf level.code, byteOf sources.code] ++ beTime deadline ++ beTime episode
  | .jobOutcome i outcome target rank retries missed tag cause =>
    [byteOf i, byteOf outcome.code] ++ be16 target
      ++ [byteOf rank.code, byteOf retries, flagsByte [missed, tag.isSome], byteOf (tag.getD 0),
          byteOf ((cause.map NodeFaults.code).getD 0)]
  | .alertRaised flag opening => [byteOf flag.number, byteOr255 opening]
  | .applyDone g code => [byteOf g, byteOf code.value]
  | .storeDone op outcome => [byteOf op.code, byteOf outcome.code]

/-- The frame of a record being sent: a notice carries tag 0 (R151, R155). -/
def Sending.frame : Sending → List Byte
  | .reply r => frameBytes r.type r.tag (byteOf r.code.value :: r.data)
  | .notice n => frameBytes n.typeCode 0 n.payload

end Sys2Proof.Machine
end

