-- ==== Sys2Proof/Machine/Operands.lean ====
section
/-! DEFINITION. The operands of the host requests: their clamps and the tests of their values (R7, R8, R17, R25, R38, R53,
R72, R76, R79, R93, R113, R159). -/

namespace Sys2Proof.Machine

/-- The nearest value inside a range (R8). -/
def clampTo (low high n : Nat) : Nat := max low (min n high)

/-! ## OPENING-WRITE -/

/-- The clamps of an opening's fields; a run current above the inrush current becomes the inrush current (R8). -/
def clampOpening (w : OpeningWire) : OpeningWire :=
  let inrush := clampTo 1 100 w.inrush
  { w with
    travel := clampTo 16 4095 w.travel
    tolerance := clampTo 0 63 w.tolerance
    speed := clampTo 1 255 w.speed
    inrush := inrush
    run := min (clampTo 1 100 w.run) inrush
    inrushDuration := clampTo 1 50 w.inrushDuration }

/-- A number of a range from 0, or 255 for none (R151). -/
def upToOrNone (high n : Nat) : Bool := n ≤ high || n == 255

/-- Test 5 of R7 passes. -/
def openingValuesStand (w : OpeningWire) : Bool :=
  1 ≤ w.address && w.address ≤ 62 && upToOrNone 3 w.zone && upToOrNone 63 w.lamp && !(w.reachable && w.zone == 255)

/-! ## GROUP-WRITE -/

/-- The clamps of a group record (R17). -/
def clampGroup (w : GroupWire) : GroupWire :=
  { w with
    gustLimit := clampTo 50 600 w.gustLimit
    meanLimit := clampTo 30 600 w.meanLimit
    leeGrace := clampTo 0 900 w.leeGrace }

/-- No number stands twice in the list (R17). -/
def noRepeats : List Nat → Bool
  | [] => true
  | x :: xs => !xs.contains x && noRepeats xs

/-! ## SITE-WRITE -/

/-- The clamps of every numeric field to its range (R25, R53, R79, R93, R113). -/
def clampRanges (w : SiteWire) : SiteWire :=
  { w with
    factorK := clampTo 1 1023 w.factorK
    leeMargin := clampTo 0 100 w.leeMargin
    calmHold := clampTo 60 3600 w.calmHold
    shortLevel := clampTo 0 1023 w.shortLevel
    wetLevel := clampTo 0 1023 w.wetLevel
    openLevel := clampTo 0 1023 w.openLevel
    rainConfirm := clampTo 1 60 w.rainConfirm
    dryConfirm := clampTo 60 3600 w.dryConfirm
    forecastMargin := clampTo 0 1800 w.forecastMargin
    retryLimit := clampTo 0 5 w.retryLimit
    retryDelay := clampTo 5 300 w.retryDelay
    manualAllowance := clampTo 10 600 w.manualAllowance
    budget := clampTo 20 800 w.budget
    derateStart := clampTo 160 280 w.derateStart
    cutoffVoltage := clampTo 150 280 w.cutoffVoltage
    warningInterval := clampTo 1 15 w.warningInterval
    replyTimeout := clampTo 10 250 w.replyTimeout }

/-- Vc above Vd - 10 becomes Vd - 10 (R79). -/
def lowerCutoff (w : SiteWire) : SiteWire := { w with cutoffVoltage := min w.cutoffVoltage (w.derateStart - 10) }

/-- Step 4 of R159. -/
def clampSite (w : SiteWire) : SiteWire := lowerCutoff (clampRanges w)

/-- Test 3 of R159 passes: tones and cadences name values, lamps are lamps or none. -/
def siteCodesStand (w : SiteWire) : Bool :=
  w.tones.toList.all (· ≤ 3) && w.cadences.toList.all (· ≤ 1)
    && upToOrNone 63 w.rainLamp && upToOrNone 63 w.windLamp && upToOrNone 63 w.faultLamp && upToOrNone 63 w.supplyLamp

/-- Test 5 of R159 passes: short < wet < open (R25). -/
def siteLevelsStand (w : SiteWire) : Bool := w.shortLevel < w.wetLevel && w.wetLevel < w.openLevel

/-! ## FORECAST -/

/-- The clamped onset, duration and gust of a forecast (R38). -/
def clampForecast (onset duration gust : Nat) : Nat × Nat × Nat :=
  (clampTo 0 7200 onset, clampTo 60 21600 duration, clampTo 0 600 gust)

/-- The entry of an accepted forecast (R38). -/
def forecastEntry (now margin ftag onset duration gust mask : Nat) : Forecast where
  ftag := ftag
  onsetAt := now + onset
  endsAt := now + onset + duration
  gust := gust
  mask := BitVec.ofNat 8 mask
  leadDeadline := max now (now + onset - margin)

/-- OK, or CLAMPED when a clamp changed a value (R158). -/
def clampCode (changed : Bool) : ResultCode := if changed then .clamped else .ok

end Sys2Proof.Machine
end

