-- ==== Sys2Proof/Machine/Store.lean ====
section
/-! DEFINITION. The image in its eight sectors, its content and its validity (R174), and the Settings Store's save, erase
and lock (R175 to R177) with the commands ERASE_SECTOR_DONE, PROGRAM_SECTOR_DONE and SECTOR_TIMEOUT. -/

namespace Sys2Proof.Machine

/-! ## The image as an addressed store (R174) -/

/-- An erased byte: what an unlisted address reads as (R174). -/
def erased : Byte := 0xFF#8

/-- Byte `a` of the image (R174). -/
def Image.read (m : Image) (a : Nat) : Byte := ((m.cells.find? (·.1 == a)).map (·.2)).getD erased

/-- The canonical form: addresses strictly rising, and no listed byte erased. -/
def cellsWf : List Host.Cell → Bool
  | [] => true
  | [c] => c.2 != erased
  | c :: d :: cs => c.2 != erased && c.1 < d.1 && cellsWf (d :: cs)

/-- The image is in canonical form. -/
def Image.wf (m : Image) : Bool := cellsWf m.cells

/-- Write one byte, keeping the canonical form. -/
def writeCell (a : Nat) (v : Byte) : List Host.Cell → List Host.Cell
  | [] => if v = erased then [] else [(a, v)]
  | c :: cs =>
    if c.1 < a then c :: writeCell a v cs
    else if c.1 = a then if v = erased then cs else (a, v) :: cs
    else if v = erased then c :: cs else (a, v) :: c :: cs

/-- Program one byte of the image. -/
def Image.write (a : Nat) (v : Byte) (m : Image) : Image := { m with cells := writeCell a v m.cells }

/-- The cell lies in sector `k` (R174). -/
def inSector (k : Nat) (c : Host.Cell) : Bool := c.1 / 256 == k

/-- Sector `k` has been erased and verified blank (R175). -/
def Image.eraseSector (k : Nat) (m : Image) : Image :=
  ⟨m.cells.filter fun c => !inSector k c, m.unsettled.filter (· != k)⟩

/-- Sector `k` is left partly erased or partly programmed: its bytes are not known (R175; log 17). -/
def Image.unsettle (k : Nat) (m : Image) : Image := { m with unsettled := insertNat k (m.unsettled.filter (· != k)) }


/-- The cells of bytes that stand from address `a` on. -/
def cellsOf : Nat → List Byte → List Host.Cell
  | _, [] => []
  | a, b :: bs => if b = erased then cellsOf (a + 1) bs else (a, b) :: cellsOf (a + 1) bs

/-- Sector `k` has been programmed and verified to hold the given bytes, the rest of it erased (R175). -/
def Image.programSector (k : Nat) (bytes : List Byte) (m : Image) : Image :=
  { m with cells := m.cells.filter (fun c => c.1 < 256 * k) ++ cellsOf (256 * k) (bytes.take 256)
                      ++ m.cells.filter (fun c => 256 * k + 256 ≤ c.1) }

/-- The next `n` bytes from address `a`, out of cells none of which lies below it. -/
def readFrom : List Host.Cell → Nat → Nat → List Byte
  | _, _, 0 => []
  | [], a, n + 1 => erased :: readFrom [] (a + 1) n
  | c :: cs, a, n + 1 =>
    if c.1 = a then c.2 :: readFrom cs (a + 1) n else erased :: readFrom (c :: cs) (a + 1) n

/-! ## The content (R174) -/

/-- The bytes of a group's active copy in the image: 16 member bytes, those beyond the count 255 (R174). -/
def GroupRecord.imageBytes (r : GroupRecord) : List Byte :=
  r.wire.headBytes ++ (r.members.map byteOf ++ List.replicate 16 (byteOf 255)).take 16

/-- The content but for its CRC, 773 bytes (R174). -/
def ConfigCopy.coveredBytes (c : ConfigCopy) : List Byte :=
  c.site.wire.bytes ++ c.cfgs.toList.flatMap (fun x => x.wire.bytes) ++ c.actives.toList.flatMap (·.imageBytes)

/-- The 775 bytes of the content (R174). -/
def ConfigCopy.bytes (c : ConfigCopy) : List Byte := c.coveredBytes ++ crc16Bytes c.coveredBytes

/-- The content as the image holds it: the first 775 bytes. -/
def Image.content (m : Image) : List Byte := readFrom m.cells 0 775

/-- The address of the lock byte, the last of sector 7 (R174). -/
def lockAddress : Nat := 2047

/-- The lock byte's value when the lock is set (R174). -/
def lockSet : Byte := 0x5A#8

/-- The lock byte (R174). -/
def Image.lockByte (m : Image) : Byte := m.read lockAddress

/-- The image is valid (R174). A sector left partly erased or programmed makes it not valid (R175; log 17). -/
def Image.valid (m : Image) : Bool :=
  m.unsettled.isEmpty && !(m.content.all (· == erased))
    && crc16Bytes (m.content.take 773) == m.content.drop 773
    && (m.lockByte == erased || m.lockByte == lockSet)

/-- The group record in the 25 bytes from offset `k` of the content (R174). -/
def groupFromImage (p : List Byte) (k : Nat) : GroupRecord :=
  groupOfWire (groupWireAt p k (((p.drop (k + 9)).take 16).take (byteAt p (k + 8))))

/-- The configuration that a valid content stands for (R174; log 40). -/
def configOfContent (p : List Byte) : ConfigCopy where
  site := siteOfWire (siteWireOf p)
  cfgs := ⟨⟨(List.range 48).map fun i => cfgOfWire (openingWireAt p (45 + 11 * i))⟩, by simp⟩
  actives := ⟨⟨(List.range 8).map fun g => groupFromImage p (573 + 25 * g)⟩, by simp⟩

/-- The configuration a load takes from an image that is not valid (R2, R14, R174). -/
def defaultConfig : ConfigCopy := ⟨defaultSite, defaultCfgs, Vector.replicate 8 defaultGroup⟩

/-- The configuration that the load gives (R174). -/
def Image.config (m : Image) : ConfigCopy := if m.valid then configOfContent m.content else defaultConfig

/-! ## Save, erase and lock (R175 to R177) -/

/-- The store is IDLE (R174). -/
def State.storeIdle (s : State) : Bool := s.store.state == .idle

/-- The copy a save takes (R175). -/
def State.configCopy (s : State) : ConfigCopy := ⟨s.site, s.cfgs, s.groups.map (·.active)⟩

/-- A save begins (R175). Leaving IDLE ends the STORE_INVALID condition (R174). -/
def State.beginSave (s : State) : State :=
  State.clearAlert .storeInvalid
    { s with store := { s.store with state := .erasing .save 0, valid := false, copy := some s.configCopy } }

/-- An erase begins (R177). -/
def State.beginErase (s : State) : State :=
  State.clearAlert .storeInvalid { s with store := ⟨.erasing .erase 0, false, false, none⟩ }

/-- A save or erase ends: STORE-DONE, then STORE_FAULT after a failure, then STORE_INVALID when no valid image stands
(R175, R177). -/
def State.endStore (op : StoreOp) (outcome : StoreOutcome) (s : State) : State :=
  let saved := op == .save && outcome == .ok
  let s := { s with store := { s.store with state := .idle, valid := saved, copy := none } }
  let s := s.placeNotice (.storeDone op outcome)
  let s := if outcome = .ok then s else s.raiseAlert .storeFault none
  if saved then s else s.raiseAlert .storeInvalid none

/-- Replace the image by a function of it. -/
def State.modImage (f : Image → Image) (s : State) : State := { s with image := f s.image }

/-- Set the store state. -/
def State.setStoreState (x : StoreState) (s : State) : State := { s with store := { s.store with state := x } }

/-- The bytes of sector `k` of the copy being saved (R175). -/
def State.sectorBytes (s : State) (k : Nat) : List Byte :=
  match s.store.copy with
  | none => []
  | some c => (c.bytes.drop (256 * k)).take 256

/-- A sector erase completes, verified blank or not (R175, R177). -/
def State.sectorErased (blank : Bool) (s : State) : State :=
  match s.store.state with
  | .idle | .programming _ => s
  | .erasing op k =>
    if blank then
      let s := s.modImage (Image.eraseSector k)
      if k < 7 then s.setStoreState (.erasing op (k + 1))
      else match op with
        | .save => s.setStoreState (.programming 0)
        | .erase => s.endStore .erase .ok
    else State.endStore op .eraseFail (s.modImage (Image.unsettle k))

/-- A sector has been programmed, verified against the copy or not (R175). -/
def State.sectorProgrammed (verified : Bool) (s : State) : State :=
  match s.store.state with
  | .idle | .erasing _ _ => s
  | .programming k =>
    if verified then
      let s := s.modImage (Image.programSector k (s.sectorBytes k))
      if k < 3 then s.setStoreState (.programming (k + 1)) else s.endStore .save .ok
    else State.endStore .save .programFail (s.modImage (Image.unsettle k))

/-- A sector is not complete within the time it is allowed (R175, R177). -/
def State.sectorLate (s : State) : State :=
  match s.store.state with
  | .idle => s
  | .erasing op k => State.endStore op .eraseFail (s.modImage (Image.unsettle k))
  | .programming k => State.endStore .save .programFail (s.modImage (Image.unsettle k))

/-- The operation under way is abandoned by a reset; its sector is left as it stands (R173, R175). -/
def State.abandonStore (s : State) : State :=
  match s.store.state with
  | .idle => s
  | .erasing _ k => { s with image := s.image.unsettle k, store := resetStore }
  | .programming k => { s with image := s.image.unsettle k, store := resetStore }

/-- What the lock byte holds after a failed verify: neither FFh nor 5Ah (R176), and otherwise free (log 16). -/
def lockResidue (draw : Nat) : Byte :=
  if Config.freeLockResidue draw = erased || Config.freeLockResidue draw = lockSet then 0#8
  else Config.freeLockResidue draw

/-- The lock byte is programmed and verified (R176). Either way the free values drawn for it are counted (log 16). -/
def State.programLock (verifies : Bool) (s : State) : State :=
  if verifies then
    { s with image := s.image.write lockAddress lockSet, freeUses := s.freeUses + 1
             store := { s.store with lock := true } }
  else
    State.raiseAlert .storeInvalid none (State.raiseAlert .storeFault none
      { s with image := s.image.write lockAddress (lockResidue s.freeUses), freeUses := s.freeUses + 1
               store := { s.store with valid := false } })

/-- ERASE_SECTOR_DONE (R175, R177). -/
def execEraseSectorDone (blank : Bool) (s : State) : Result := State.plainEvent (State.sectorErased blank) s

/-- PROGRAM_SECTOR_DONE (R175). -/
def execProgramSectorDone (verified : Bool) (s : State) : Result := State.plainEvent (State.sectorProgrammed verified) s

/-- SECTOR_TIMEOUT (R175, R177). -/
def execSectorTimeout (s : State) : Result := State.plainEvent State.sectorLate s

end Sys2Proof.Machine
end

