-- ==== Sys2Proof/Machine/Requests.lean ====
section
/-! DEFINITION. The owners of the host requests: their tests, in the order of their rules, and their effects (R6 to R9,
R16 to R18, R38, R39, R72 to R78, R149, R159 to R164, R167, R170, R173, R175 to R177). One definition for each request. -/

namespace Sys2Proof.Machine

/-- What an owner answers: the state it leaves, the result code and the data after it (R155). -/
structure Answer where
  state : State
  code  : ResultCode
  data  : List Byte
  deriving DecidableEq, Repr

/-- A refusal: the code alone, and no state changed (R155, R158). -/
def refuse (code : ResultCode) (s : State) : Answer := ⟨s, code, []⟩

/-- A reading: OK with data, and no state changed. -/
def report (data : List Byte) (s : State) : Answer := ⟨s, .ok, data⟩

/-- An accepted request: its effects and the end of the event. -/
def accept (code : ResultCode) (data : List Byte) (body : State → State) (s : State) : Answer :=
  ⟨State.finish s.line.queue (body s), code, data⟩

/-! ## Opening Table (R6 to R9) -/

/-- Another enabled opening holds the node address (R7). -/
def State.addressTaken (s : State) (i address : Nat) : Bool :=
  (List.range 48).any fun k => k != i && (s.cfg k).enabled && (s.cfg k).address == address

/-- The five live fields that a rewritten node loses (R9); position stale is no also where R136 has yes (log 52). -/
def OpeningLive.forgotten (l : OpeningLive) : OpeningLive :=
  { l with position := none, stale := false, motion := .stopped, faults := noFaults, reportedTravel := none }

/-- The opening's waiting POLL and IDENT go, and its transaction in flight is no longer reported (R9, R117, R125;
log 22). -/
def State.detach (i : Nat) (s : State) : State :=
  let s' := s.filterQueue fun r => !r.searchesOpening i
  let s' := match s'.line.flight with
    | none => s'
    | some f => if f.request.opening? = some i then s'.setFlight (some { f with detached := true }) else s'
  if s'.line.queue.length < s.line.queue.length then s'.slotFreed else s'

/-- The configured fields of opening `i` are replaced (R8). -/
def State.setCfg (i : Nat) (c : OpeningCfg) (s : State) : State := { s with cfgs := s.cfgs.setIfInBounds i c }

/-- The effects of an accepted OPENING-WRITE (R8, R9, R134). A new address for an opening that is disabled after the write
restarts nothing of the record beyond what R9 gives: last current stays, and due at too when the opening was disabled
before; that is the model's choice (log 49, DESIGN CHOICE). Where the write readdresses or disables an opening whose node is
in PROBATION or PRESENT, R9 gives position stale no, while R136 and R5 give yes on leaving to HUNT: the model follows R9, by
its own choice (log 52, DESIGN CHOICE). -/
def State.writeOpening (i : Nat) (c : OpeningCfg) (s : State) : State :=
  let old := s.cfg i
  let s' := (s.setCfg i c).modLive i fun l => { l with failed := false }
  if c.enabled && !(old.enabled && old.address == c.address) then
    State.detach i ((s'.modLive i OpeningLive.forgotten).modNode i fun _ => freshNode s.tenths)
  else if old.enabled && !c.enabled then
    State.detach i ((s'.modLive i OpeningLive.forgotten).modNode i (NodeRecord.hunted s.tenths))
  else if s'.closed i && !s.closed i then s'.triggerWalk
  else s'

/-- OPENING-READ (R6, R161). -/
def reqOpeningRead (i : Nat) (s : State) : Answer :=
  if 48 ≤ i then refuse .noSuchOpening s else report (s.openingBytes i) s

/-- OPENING-WRITE (R7, R8, R9). -/
def reqOpeningWrite (i : Nat) (w : OpeningWire) (s : State) : Answer :=
  if 48 ≤ i then refuse .noSuchOpening s
  else if s.store.lock then refuse .locked s
  else if !s.storeIdle then refuse .busy s
  else if (s.job? i).isSome || (s.reservation? i).isSome then refuse .busy s
  else if !openingValuesStand w then refuse .badValue s
  else if w.enabled && s.addressTaken i w.address then refuse .conflict s
  else accept (clampCode (clampOpening w != w)) [] (State.writeOpening i (cfgOfWire (clampOpening w))) s

/-! ## Group Table (R16 to R18) -/

/-- GROUP-READ (R16, R161). -/
def reqGroupRead (g copy : Nat) (s : State) : Answer :=
  if 8 ≤ g then refuse .noSuchGroup s
  else if 2 ≤ copy then refuse .badValue s
  else report (s.groupBytes g copy) s

/-- GROUP-WRITE (R17). -/
def reqGroupWrite (g : Nat) (w : GroupWire) (s : State) : Answer :=
  if 8 ≤ g then refuse .noSuchGroup s
  else if s.store.lock then refuse .locked s
  else if !s.storeIdle then refuse .busy s
  else if 17 ≤ w.members.length then refuse .badLength s
  else if 9 ≤ w.bearing then refuse .badValue s
  else if w.members.any (48 ≤ ·) then refuse .noSuchOpening s
  else if !noRepeats w.members then refuse .badValue s
  else
    accept (clampCode (clampGroup w != w)) []
      (fun s => s.setGroup g { s.group g with pendingCopy := groupOfWire (clampGroup w) }) s

/-- GROUP-APPLY (R18). -/
def reqGroupApply (g : Nat) (s : State) : Answer :=
  if 8 ≤ g then refuse .noSuchGroup s
  else if s.store.lock then refuse .locked s
  else if !s.storeIdle then refuse .busy s
  else
    accept .accepted []
      (fun s => State.testQuiescence (some g) (s.setGroup g { s.group g with applyRequested := true })) s

/-! ## Site record (R159) -/

/-- SITE-READ (R159). -/
def reqSiteRead (s : State) : Answer := report s.site.wire.bytes s

/-- A sensor whose enable bit the write clears is placed in DRY (R34). -/
def RainSensor.disabled (x : RainSensor) : RainSensor := { x with state := .dry, since := none, outRun := 0, inRun := 0 }

/-- Rain input `k` after a write of the enable mask (R34). -/
def State.remasked (old new : SiteRecord) (s : State) (k : Nat) : RainSensor :=
  if old.rainEnabled k && !new.rainEnabled k then (s.weather.input k).disabled else s.weather.input k

/-- Zone `z` after a write of the cadences: a sounding zone whose cadence changes starts again at ON and 0 (R99). -/
def State.recadenced (old new : SiteRecord) (s : State) (z : Nat) : Zone :=
  if (s.zone z).sounding && old.cadence z != new.cadence z then { s.zone z with phaseOn := true, count := 0 }
  else s.zone z

/-- The site record is replaced, and each owner applies its fields (R34, R79, R93, R99, R159). -/
def State.writeSite (r : SiteRecord) (s : State) : State :=
  let old := s.site
  let s' := { s with
    site := r
    weather := { s.weather with
      rain := #v[s.remasked old r 0, s.remasked old r 1, s.remasked old r 2, s.remasked old r 3] }
    zones := #v[s.recadenced old r 0, s.recadenced old r 1, s.recadenced old r 2, s.recadenced old r 3] }
  let s' := s'.evalZones
  if s.beff < s'.beff then s'.triggerWalk else s'

/-- SITE-WRITE (R159). -/
def reqSiteWrite (w : SiteWire) (s : State) : Answer :=
  if s.store.lock then refuse .locked s
  else if !s.storeIdle then refuse .busy s
  else if !siteCodesStand w then refuse .badValue s
  else if !siteLevelsStand (clampSite w) then refuse .badValue s
  else if (clampSite w).budget < reservedSum s.reserv then refuse .busy s
  else accept (clampCode (clampSite w != w)) [] (State.writeSite (siteOfWire (clampSite w))) s

/-! ## Jobs (R72 to R78) -/

/-- Tests 1 to 4 of R72; none when all pass. -/
def State.moveRefusal (s : State) (i : Nat) : Option ResultCode :=
  if 48 ≤ i || !(s.cfg i).enabled then some .noSuchOpening
  else if s.isHeld i then some .held
  else if (s.job? i).isSome || (s.reservation? i).isSome then some .busy
  else if !((s.node i).presence == .present) then some .notPresent
  else none

/-- A member placed after the opening in its chained group has a job (R23). -/
def State.laterMemberBusy (s : State) (i : Nat) : Bool :=
  match s.groupOf i with
  | none => false
  | some g =>
    let r := (s.group g).active
    r.chained && ((r.members.dropWhile (· != i)).drop 1).any fun m => (s.job? m).isSome

/-- The opening's failure status becomes OK (R11). -/
def State.forgive (i : Nat) (s : State) : State := s.modLive i fun l => { l with failed := false }

/-- The manual job that MOVE or GROUP-CLOSE creates (R72, R73). -/
def State.manualJob (tag i target : Nat) (s : State) : State :=
  State.forgive i (s.createJob i target .manual (s.T + s.site.manualAllowance) (some tag))

/-- MOVE (R72, R23). -/
def reqMove (tag i target : Nat) (s : State) : Answer :=
  let clamped := min target (s.effTravel i)
  match s.moveRefusal i with
  | some code => refuse code s
  | none =>
    if s.threatened i && s.moreOpen i clamped then refuse .weatherLock s
    else if s.moreOpen i clamped && s.laterMemberBusy i then refuse .chainBusy s
    else accept (clampCode (clamped != target)) [] (State.manualJob tag i clamped) s

/-- The members of a group for which GROUP-CLOSE creates a job (R73). -/
def State.closable (s : State) (g : Nat) : List Nat :=
  (s.group g).active.members.filter fun i => (s.moveRefusal i).isNone && !s.closed i

/-- GROUP-CLOSE (R73). The walk runs after the last member, also when no member passes. -/
def reqGroupClose (tag g : Nat) (s : State) : Answer :=
  if 8 ≤ g then refuse .noSuchGroup s
  else
    accept .ok [byteOf (s.closable g).length]
      (fun s => State.triggerWalk ((s.closable g).foldl (fun s i => s.manualJob tag i 0) s)) s

/-- The tests CANCEL and STOP share: the opening number, the absence of a job, a weather job (R74, R75). -/
def withManualJob (i : Nat) (s : State) (act : Job → Answer) : Answer :=
  if 48 ≤ i then refuse .noSuchOpening s
  else match s.job? i with
    | none => refuse .noJob s
    | some j => if j.rank = .manual then act j else refuse .notCancellable s

/-- CANCEL (R74). -/
def reqCancel (i : Nat) (s : State) : Answer :=
  withManualJob i s fun j =>
    match j.state with
    | .queued | .announcing | .retryWait _ => accept .ok [] (State.endJob j .cancelled) s
    | .dispatching | .running | .stopping _ => refuse .tooLate s

/-- STOP (R75). -/
def reqStop (i : Nat) (s : State) : Answer :=
  withManualJob i s fun j =>
    match j.state with
    | .queued | .announcing | .retryWait _ => accept .ok [] (State.endJob j .cancelled) s
    | .dispatching | .running => accept .ok [] (State.haltJob j j .halted) s
    | .stopping _ => report [] s

/-- What a HOLD does to an after-stop (R76). -/
def AfterStop.onHold : AfterStop → AfterStop
  | .requeueClose => .cancelled
  | .cancelled => .cancelled
  | .halted => .halted
  | .failedTimeout => .failedTimeout

/-- A HOLD deals with the opening's job by its state (R76). -/
def State.holdJob (i : Nat) (s : State) : State :=
  match s.job? i with
  | none => s
  | some j =>
    match j.state with
    | .queued | .announcing | .retryWait _ => s.endJob j .cancelled
    | .dispatching | .running => s.haltJob j j .cancelled
    | .stopping a => s.changeJob j { j with state := .stopping a.onHold }

/-- The opening enters the held list, or its entry takes a new expiry (R76). -/
def State.addHold (i minutes : Nat) (s : State) : State :=
  { s with held := insertHeld ⟨i, s.T + 60 * minutes⟩ (s.held.filter (·.opening != i)) }

/-- HOLD (R76, R77). -/
def reqHold (i minutes : Nat) (s : State) : Answer :=
  if 48 ≤ i || !(s.cfg i).enabled then refuse .noSuchOpening s
  else if minutes = 0 then
    if s.isHeld i then accept .ok [] (State.unhold i) s else report [] s
  else if !s.isHeld i && 8 ≤ s.held.length then refuse .full s
  else accept (clampCode (240 < minutes)) [] (fun s => State.holdJob i (s.addHold i (min minutes 240))) s

/-- JOBS-READ (R78, R162). -/
def reqJobsRead (start : Nat) (s : State) : Answer := report (s.jobsBytes start) s

/-! ## Forecasts and weather (R38, R39, R49) -/

/-- The forecast list holds an entry with the tag (R38). -/
def State.hasForecast (s : State) (ftag : Nat) : Bool := s.weather.forecasts.any (·.ftag == ftag)

/-- The forecast list without the tag's entry. -/
def State.otherForecasts (s : State) (ftag : Nat) : List Forecast := s.weather.forecasts.filter (·.ftag != ftag)

/-- Replace the forecast list. -/
def State.setForecasts (l : List Forecast) (s : State) : State := { s with weather := { s.weather with forecasts := l } }

/-- The forecast entry enters the list, and all FORECAST sources are evaluated (R38). -/
def State.addForecast (f : Forecast) (s : State) : State :=
  State.evalForecasts (s.setForecasts (insertForecast f (s.otherForecasts f.ftag)))

/-- FORECAST (R38). -/
def reqForecast (ftag onset duration gust mask : Nat) (s : State) : Answer :=
  if ftag = 0 then refuse .badValue s
  else if !s.hasForecast ftag && 4 ≤ s.weather.forecasts.length then refuse .full s
  else
    let c := clampForecast onset duration gust
    accept (clampCode (c != (onset, duration, gust))) []
      (fun s => s.addForecast (forecastEntry s.T s.site.forecastMargin ftag c.1 c.2.1 c.2.2 mask)) s

/-- FORECAST-WITHDRAW (R39). -/
def reqForecastWithdraw (ftag : Nat) (s : State) : Answer :=
  if s.hasForecast ftag then accept .ok [] (fun s => State.evalForecasts (s.setForecasts (s.otherForecasts ftag))) s
  else refuse .noSuchTag s

/-- WEATHER-READ (R49, R163). -/
def reqWeatherRead (part : Nat) (s : State) : Answer :=
  if 3 ≤ part then refuse .badValue s else report (s.weatherBytes part) s

/-! ## Status, nodes, counters and alerts (R149, R160, R164, R167, R170) -/

/-- STATUS-READ (R160). -/
def reqStatusRead (s : State) : Answer := report s.statusBytes s

/-- NODE-READ (R149, R161). -/
def reqNodeRead (i : Nat) (s : State) : Answer :=
  if 48 ≤ i then refuse .noSuchOpening s else report (s.nodeBytes i) s

/-- COUNTERS-READ-CLEAR (R170): the counters as they stood, and all of them 0. -/
def reqCountersReadClear (s : State) : Answer :=
  ⟨{ s with counters := Vector.replicate 18 0 }, .ok, s.counterBytes⟩

/-- ALERTS-ACK (R167): the flags as they stand after it. -/
def reqAlertsAck (flags : Nat) (s : State) : Answer := ⟨s.acknowledge flags, .ok, (s.acknowledge flags).alertBytes⟩

/-! ## Settings Store and restart (R173, R175 to R177) -/

/-- STORE-SAVE (R175). -/
def reqStoreSave (s : State) : Answer :=
  if s.store.lock then refuse .locked s
  else if !s.storeIdle then refuse .busy s
  else ⟨s.beginSave, .accepted, []⟩

/-- STORE-ERASE (R177). -/
def reqStoreErase (s : State) : Answer :=
  if !s.storeIdle then refuse .busy s else ⟨s.beginErase, .accepted, []⟩

/-- STORE-LOCK (R176). -/
def reqStoreLock (verifies : Bool) (s : State) : Answer :=
  if !s.storeIdle then refuse .busy s
  else if !s.store.valid then refuse .noImage s
  else if s.store.lock then report [] s
  else ⟨s.programLock verifies, if verifies then .ok else .noImage, []⟩

/-- RESTART (R173): the reset is taken when the reply has been sent. -/
def reqRestart (s : State) : Answer := report [] s

/-- The owner of a request answers it (R155). `tag` is the tag of its frame. -/
def serve (r : Request) (tag : Nat) (s : State) : Answer :=
  match r with
  | .statusRead => reqStatusRead s
  | .openingRead i => reqOpeningRead i s
  | .openingWrite i w => reqOpeningWrite i w s
  | .groupRead g copy => reqGroupRead g copy s
  | .groupWrite g w => reqGroupWrite g w s
  | .groupApply g => reqGroupApply g s
  | .siteRead => reqSiteRead s
  | .siteWrite w => reqSiteWrite w s
  | .move i target => reqMove tag i target s
  | .groupClose g => reqGroupClose tag g s
  | .cancel i => reqCancel i s
  | .stop i => reqStop i s
  | .hold i minutes => reqHold i minutes s
  | .forecast ftag onset duration gust mask => reqForecast ftag onset duration gust mask s
  | .forecastWithdraw ftag => reqForecastWithdraw ftag s
  | .jobsRead start => reqJobsRead start s
  | .weatherRead part => reqWeatherRead part s
  | .nodeRead i => reqNodeRead i s
  | .countersReadClear => reqCountersReadClear s
  | .alertsAck flags => reqAlertsAck flags s
  | .storeSave => reqStoreSave s
  | .storeErase => reqStoreErase s
  | .storeLock verifies => reqStoreLock verifies s
  | .restart => reqRestart s

end Sys2Proof.Machine
end

