-- ==== Sys2Proof/Machine/Resets.lean ====
section
/-! DEFINITION. The Time Base (R171, R94), the resets (R172, R173), the load (R174), and their commands. -/

namespace Sys2Proof.Machine

/-! ## Resets -/

/-- Step 4 of a reset: every block takes its reset values, the counters and counts become 0 and the dividers restart
(R172). The image, the input pins and the queue of commands stay. -/
def State.cleared (s : State) : State :=
  { State.reset with
    pending := s.pending, nreset := s.nreset, svcreq := s.svcreq, image := s.image, freeUses := s.freeUses }

/-- The logic supply rises above its threshold: the crystal wait begins (R172; log 19). -/
def State.powerOn (s : State) : State := { s.abandonStore.cleared with phase := .crystalWait }

/-- The logic supply falls below its threshold: the part is held in its static reset, its volatile state gone (section
10.2; log 19). -/
def State.powerOff (s : State) : State := { s.abandonStore.cleared with phase := .unpowered }

/-- The end of the crystal wait: the counts become 0 and the dividers start; then the hold, or the clear and the load
(R172, steps 2 to 5). -/
def State.endCrystalWait (s : State) : State :=
  if s.phase = .crystalWait then
    if s.nreset then s.cleared else { s with phase := .heldPower, tenths := 0, divider := 0 }
  else s

/-- A pin reset is taken (R172): the line, the host port and the store stop where they stand (R132, R150, R175), and the
counts are held at 0. -/
def State.hold (phase : Phase) (cause : StartCause) (s : State) : State :=
  { s.abandonStore with phase := phase, cause := cause, tenths := 0, line := resetLine, host := resetHost }

/-- NRESET goes low (R172; log 18). -/
def State.pinLow (s : State) : State :=
  let s := { s with nreset := false }
  match s.phase with
  | .unpowered | .crystalWait | .heldPower | .heldPin => s
  | .loading => if s.cause = .power then s.hold .heldPower .power else s.hold .heldPin .pin
  | .running => s.hold .heldPin .pin

/-- NRESET is released: steps 4 and 5 (R172). The dividers of a power-on reset run on from the end of its wait; those of
a pin reset restart (R94, section 10.2). -/
def State.pinHigh (s : State) : State :=
  let s := { s with nreset := true }
  match s.phase with
  | .heldPower => { s.cleared with divider := s.divider }
  | .heldPin => { s.cleared with cause := .pin }
  | .unpowered | .crystalWait | .loading | .running => s

/-- The reset of a RESTART: a pin reset that keeps the counts and the counters (R173). -/
def State.restart (s : State) : State :=
  { s.abandonStore.cleared with tenths := s.tenths, counters := s.counters, cause := .restart }

/-! ## The load (R174) -/

/-- The image is tested, and it or the defaults give the configuration; every node falls due at once (R2, R14, R134,
R174). -/
def State.loadImage (s : State) : State :=
  let c := s.image.config
  { s with
    phase := .running
    site := c.site
    cfgs := c.cfgs
    groups := c.actives.map fun r => ⟨r, r, false⟩
    nodes := Vector.replicate 48 (freshNode s.tenths)
    store := ⟨.idle, s.image.valid, s.image.valid && s.image.lockByte == lockSet, none⟩ }

/-- The load completes: STARTED, STORE_INVALID where no valid image was found, the zones and the first panel frame
(R166, R172, R100, R101; log 44), and SVCREQ examined (R127). R165 starts SERVICE_ACTIVE clear and R168 lets only
STORE_INVALID be set at the load, while R127 and R128 take an asserted SVCREQ in this very event and may give the grant:
the model follows R127 and R128, and raises SERVICE_ACTIVE with the grant (DESIGN CHOICE, log 47). -/
def State.completeLoad (s : State) : State :=
  let s := State.placeNotice (.started s.cause) s.loadImage
  let s := if s.store.valid then s else s.raiseAlert .storeInvalid none
  let s := s.evalZones.beginFrame
  if s.svcreq then s.takeServiceRequest else s

/-! ## The Time Base -/

/-- The dividers run at all times after the crystal wait of a power-on reset has ended (R94, R172). -/
def Phase.dividersRun : Phase → Bool
  | .heldPower | .heldPin | .loading | .running => true
  | .unpowered | .crystalWait => false

/-- The tenths count advances, and T with it on a carry. While the part runs the advance delivers the 100 ms events and,
on the carry, the 1 s events (R171; log 5). In the load of a RESTART the counts go on and no event is delivered (R173);
the load of a power-on or pin reset completes before the first advance, with the counts at 0 (R172, step 5). -/
def State.advance (s : State) : State :=
  match s.phase with
  | .running => { s with tenths := s.tenths + 1, due := s.due.deliver (s.tenths + 1) }
  | .loading => if s.cause = .restart then { s with tenths := s.tenths + 1 } else s
  | .unpowered | .crystalWait | .heldPower | .heldPin => s

/-- Half a period of a tone in crystal cycles: the crystal divided by 64, 32, 16 or 8 (R94). -/
def Tone.halfPeriod : Tone → Nat
  | .hz512 => 32
  | .hz1024 => 16
  | .hz2048 => 8
  | .hz4096 => 4

/-- A zone's line takes the tone selected for it at an edge of that tone's divider (R94; log 31). -/
def Zone.latch (divider : Nat) (tone : Tone) (z : Zone) : Zone :=
  if divider % tone.halfPeriod = 0 then { z with lineTone := tone } else z

/-- Zone `z` after the dividers have reached `divider`. -/
def State.latched (s : State) (divider z : Nat) : Zone := (s.zone z).latch divider (s.site.tone z)

/-- One crystal cycle (R94, R101, R102, R171; log 3). -/
def State.tick (s : State) : State :=
  if s.phase.dividersRun then
    let d := (s.divider + 1) % 32768
    { s with
      divider := d
      zones := #v[s.latched d 0, s.latched d 1, s.latched d 2, s.latched d 3]
      panel := s.panel.tick }
  else s

/-! ## Commands -/

/-- POWER_ON_RESET (R172). -/
def execPowerOnReset (s : State) : Result := .next s.powerOn

/-- CRYSTAL_WAIT_END (R172). -/
def execCrystalWaitEnd (s : State) : Result := .next s.endCrystalWait

/-- PIN_RESET (R172). -/
def execPinReset (s : State) : Result := .next s.pinLow

/-- NRESET_RELEASE (R172). -/
def execNresetRelease (s : State) : Result := .next s.pinHigh

/-- IMAGE_LOAD_COMPLETE (R174). -/
def execImageLoadComplete (s : State) : Result :=
  if s.phase = .loading then .next (State.finish s.line.queue s.completeLoad) else .next s

/-- TENTHS_ADVANCE (R171). -/
def execTenthsAdvance (s : State) : Result := .next s.advance

/-- LOGIC_SUPPLY_LOSS (section 10.2). -/
def execLogicSupplyLoss (s : State) : Result := .next s.powerOff

end Sys2Proof.Machine
end

