-- ==== Sys2Proof/Machine/HostLink.lean ====
section
/-! DEFINITION. The Host Link: the receiver (R153), frames and requests taken (R154, R155), the transmitter (R156), the
port's commands, and one command for each host request. -/

namespace Sys2Proof.Machine

/-- Replace the Host Link. -/
def State.modHost (f : HostLink → HostLink) (s : State) : State := { s with host := f s.host }

/-- An idle transmitter begins the next record: the reply, else the oldest notice (R156). -/
def HostLink.transmit (h : HostLink) : HostLink :=
  if h.sending.isSome then h
  else match h.reply with
    | some r => { h with reply := none, sending := some (.reply r) }
    | none =>
      match h.notices with
      | [] => h
      | n :: ns => { h with notices := ns, sending := some (.notice n) }

/-- The reply is placed, and an idle transmitter begins it (R155, R156). -/
def State.placeReply (r : Reply) (s : State) : State := s.modHost fun h => { h with reply := some r }.transmit

/-- The reply type of a request type (R155). -/
def replyType (type : Nat) : Nat := if 128 ≤ type then 255 else type + 128

/-- The frame becomes the current request (R154). -/
def State.enterFrame (f : HostFrame) (s : State) : State := s.modHost fun h => { h with current := some f }

/-- The current request is handed to its owner, and its reply is placed (R155). -/
def State.answer (f : HostFrame) (r : Request) (s : State) : State :=
  let a := serve r f.tag (s.enterFrame f)
  a.state.placeReply ⟨replyType f.type, f.tag, a.code, a.data⟩

/-- The current request is refused by the Host Link (R155). -/
def State.refuseFrame (f : HostFrame) (code : ResultCode) (s : State) : State :=
  State.placeReply ⟨replyType f.type, f.tag, code, []⟩ (s.enterFrame f)

/-- A sound frame is taken, or lost when a request is current (R154, R155). Whether a lock byte verifies is then free
(log 16). -/
def State.takeFrame (f : HostFrame) (s : State) : State :=
  if s.host.current.isSome then s.bump .hostOverrun
  else match decodeRequest (Config.freeLockVerifies s.freeUses) f.type f.payload with
    | .error .unknownType => s.refuseFrame f .unknownType
    | .error .badLength => s.refuseFrame f .badLength
    | .ok r => s.answer f r

/-- The n + 2 bytes after the length have arrived: the check, then the frame (R154). -/
def State.completeFrame (n : Nat) (bytes : List Byte) (s : State) : State :=
  if crc16Bytes (byteOf n :: bytes.take n) = bytes.drop n then
    s.takeFrame ⟨byteAt bytes 0, byteAt bytes 1, (bytes.take n).drop 2⟩
  else s.bump .hostCrc

/-- Set the receiver. -/
def State.setRx (x : Receiver) (s : State) : State := s.modHost fun h => { h with rx := x }

/-- A byte arrives at HRX (R153). -/
def State.receiveByte (b : Byte) (s : State) : State :=
  match s.host.rx with
  | .hunt => if b = 0x5B#8 then s.setRx .length else s
  | .length => if 2 ≤ b.toNat && b.toNat ≤ 250 then s.setRx (.body b.toNat []) else s.setRx .hunt
  | .body n bytes =>
    if n + 2 ≤ bytes.length + 1 then State.completeFrame n (bytes ++ [b]) (s.setRx .hunt)
    else s.setRx (.body n (bytes ++ [b]))

/-- More than 20 ms pass inside a frame (R153). -/
def State.dropFrame (s : State) : State :=
  match s.host.rx with
  | .hunt => s
  | .length | .body _ _ => State.bump .hostFrameTimeout (s.setRx .hunt)

/-- The reply to a RESTART that was taken (R156, R173). -/
def Reply.isRestart (r : Reply) : Bool := r.type == 0x98 && r.code == .ok

/-- The last byte of the record being sent has gone (R154, R156, R173). -/
def State.recordSent (s : State) : State :=
  match s.host.sending with
  | none => s
  | some (.notice _) => s.modHost fun h => { h with sending := none }.transmit
  | some (.reply r) =>
    if r.isRestart then s.restart else s.modHost fun h => { h with sending := none, current := none }.transmit

/-! ## Commands of the port -/

/-- HOST_BYTE_RECEIVED (R153). -/
def execHostByteReceived (byte : Byte) (s : State) : Result := State.plainEvent (State.receiveByte byte) s

/-- HOST_FRAME_COMPLETE (R154): the bytes of the frame not yet taken arrive, the last of them completing it (log 39). -/
def execHostFrameComplete (bytes : List Byte) (s : State) : Result :=
  State.plainEvent (fun s => bytes.foldl (fun s b => s.receiveByte b) s) s

/-- HOST_FRAME_TIMEOUT (R153). -/
def execHostFrameTimeout (s : State) : Result := State.plainEvent State.dropFrame s

/-- RECORD_SENT (R156). -/
def execRecordSent (s : State) : Result := State.plainEvent State.recordSent s

/-! ## The host requests -/

/-- A sound frame carrying the request completes (R154, R155; log 20). -/
def State.takeRequest (tag : Nat) (r : Request) (s : State) : State :=
  if s.host.current.isSome then s.bump .hostOverrun else s.answer ⟨r.typeCode, tag, r.payload⟩ r

/-- STATUS_READ (R160). -/
def execStatusRead (tag : Nat) (s : State) : Result := State.plainEvent (State.takeRequest tag .statusRead) s

/-- OPENING_READ (R6, R161). -/
def execOpeningRead (tag opening : Nat) (s : State) : Result :=
  State.plainEvent (State.takeRequest tag (.openingRead opening)) s

/-- OPENING_WRITE (R7, R8, R9). -/
def execOpeningWrite (tag opening : Nat) (fields : OpeningWire) (s : State) : Result :=
  State.plainEvent (State.takeRequest tag (.openingWrite opening fields)) s

/-- GROUP_READ (R16, R161). -/
def execGroupRead (tag group copy : Nat) (s : State) : Result :=
  State.plainEvent (State.takeRequest tag (.groupRead group copy)) s

/-- GROUP_WRITE (R17). -/
def execGroupWrite (tag group : Nat) (fields : GroupWire) (s : State) : Result :=
  State.plainEvent (State.takeRequest tag (.groupWrite group fields)) s

/-- GROUP_APPLY (R18). -/
def execGroupApply (tag group : Nat) (s : State) : Result :=
  State.plainEvent (State.takeRequest tag (.groupApply group)) s

/-- SITE_READ (R159). -/
def execSiteRead (tag : Nat) (s : State) : Result := State.plainEvent (State.takeRequest tag .siteRead) s

/-- SITE_WRITE (R159). -/
def execSiteWrite (tag : Nat) (fields : SiteWire) (s : State) : Result :=
  State.plainEvent (State.takeRequest tag (.siteWrite fields)) s

/-- MOVE (R72). -/
def execMove (tag opening target : Nat) (s : State) : Result :=
  State.plainEvent (State.takeRequest tag (.move opening target)) s

/-- GROUP_CLOSE (R73). -/
def execGroupClose (tag group : Nat) (s : State) : Result :=
  State.plainEvent (State.takeRequest tag (.groupClose group)) s

/-- CANCEL (R74). -/
def execCancel (tag opening : Nat) (s : State) : Result :=
  State.plainEvent (State.takeRequest tag (.cancel opening)) s

/-- STOP (R75). -/
def execStop (tag opening : Nat) (s : State) : Result := State.plainEvent (State.takeRequest tag (.stop opening)) s

/-- HOLD (R76, R77). -/
def execHold (tag opening minutes : Nat) (s : State) : Result :=
  State.plainEvent (State.takeRequest tag (.hold opening minutes)) s

/-- FORECAST (R38). -/
def execForecast (tag ftag onset duration gust mask : Nat) (s : State) : Result :=
  State.plainEvent (State.takeRequest tag (.forecast ftag onset duration gust mask)) s

/-- FORECAST_WITHDRAW (R39). -/
def execForecastWithdraw (tag ftag : Nat) (s : State) : Result :=
  State.plainEvent (State.takeRequest tag (.forecastWithdraw ftag)) s

/-- JOBS_READ (R78, R162). -/
def execJobsRead (tag start : Nat) (s : State) : Result :=
  State.plainEvent (State.takeRequest tag (.jobsRead start)) s

/-- WEATHER_READ (R49, R163). -/
def execWeatherRead (tag part : Nat) (s : State) : Result :=
  State.plainEvent (State.takeRequest tag (.weatherRead part)) s

/-- NODE_READ (R149, R161). -/
def execNodeRead (tag opening : Nat) (s : State) : Result :=
  State.plainEvent (State.takeRequest tag (.nodeRead opening)) s

/-- COUNTERS_READ_CLEAR (R170). -/
def execCountersReadClear (tag : Nat) (s : State) : Result :=
  State.plainEvent (State.takeRequest tag .countersReadClear) s

/-- ALERTS_ACK (R167). -/
def execAlertsAck (tag flags : Nat) (s : State) : Result :=
  State.plainEvent (State.takeRequest tag (.alertsAck flags)) s

/-- STORE_SAVE (R175). -/
def execStoreSave (tag : Nat) (s : State) : Result := State.plainEvent (State.takeRequest tag .storeSave) s

/-- STORE_ERASE (R177). -/
def execStoreErase (tag : Nat) (s : State) : Result := State.plainEvent (State.takeRequest tag .storeErase) s

/-- STORE_LOCK (R176). -/
def execStoreLock (tag : Nat) (verifies : Bool) (s : State) : Result :=
  State.plainEvent (State.takeRequest tag (.storeLock verifies)) s

/-- RESTART (R173): answered OK; the reset is taken when the reply has been sent. -/
def execRestart (tag : Nat) (s : State) : Result := State.plainEvent (State.takeRequest tag .restart) s

end Sys2Proof.Machine
end

