-- ==== Sys2Proof/Machine/Outputs.lean ====
section
/-! DEFINITION. What stands on the output pins, as a view of the state: R94, R100, R101, R108, R127, R132, R150, R168. -/

namespace Sys2Proof.Machine

/-- What the pins carry. `htx` and `ltx` are the bits, high as `true`, of the record and of the request frame being sent,
in the order they are sent: before and after them each line rests high (R108, R150). Which of them is on the pin at a
given moment is timing and is left out (log 27). `pscan` is the eight scan lines and `plamp` the eight lamp lines (R101). -/
structure Outputs where
  htx    : List Bool
  ltx    : List Bool
  ldir   : Bool
  svcgnt : Bool
  alert  : Bool
  snd    : List Bool
  pscan  : List Bool
  plamp  : List Bool
  deriving DecidableEq, Repr

/-- Every output at its inactive level (R100, R101, R132, R150, R168, R172). -/
def inactiveOutputs : Outputs :=
  ⟨[], [], false, false, false, List.replicate 4 false, List.replicate 8 false, List.replicate 8 false⟩

/-- The level of a serial line `k` bit times after the start of what it sends: the bit sent then, and high at rest (R108,
R150). -/
def serialLevel (bits : List Bool) (k : Nat) : Bool := bits[k]?.getD true

/-- A byte on the host port: the start bit, the 8 data bits with the least significant first, the stop bit (R150). -/
def hostBits (b : Byte) : List Bool := false :: ((List.range 8).map b.getLsbD ++ [true])

/-- The frame of the request whose attempt is being sent (R109, R113). -/
def State.lineFrame (s : State) : List LineChar :=
  match s.line.flight with
  | none => []
  | some f => if f.stage = .sending then f.request.frame f.seq else []

/-- The level of the SND line of zone `z`: a square wave while the zone is audible, else low (R94; log 31). -/
def State.sndLevel (s : State) (z : Nat) : Bool :=
  (s.zone z).audible && (s.divider / (s.zone z).lineTone.halfPeriod) % 2 == 0

/-- The lamp lines while scan line `row` is active: lamp n lies on scan line n / 8 and lamp line n - 8 (n / 8) (R101). -/
def Panel.lampLines (p : Panel) (row : Nat) : List Bool := (List.range 8).map fun k => p.lit (8 * row + k)

/-- The outputs while the part runs. -/
def State.activeOutputs (s : State) : Outputs where
  htx := match s.host.sending with
    | none => []
    | some x => x.frame.flatMap hostBits
  ltx := s.lineFrame.flatMap LineChar.bits
  ldir := !s.lineFrame.isEmpty
  svcgnt := s.line.handover == .granted
  alert := s.alertAsserted
  snd := [s.sndLevel 0, s.sndLevel 1, s.sndLevel 2, s.sndLevel 3]
  pscan := (List.range 8).map (· == s.panel.scanLine)
  plamp := s.panel.lampLines s.panel.scanLine

/-- The outputs: held inactive until the load completes (R172). -/
def State.outputs (s : State) : Outputs := if s.phase = .running then s.activeOutputs else inactiveOutputs

end Sys2Proof.Machine
end

