-- ==== Sys2Proof/Machine/Dispatch.lean ====
section
/-! DEFINITION. Every command to its meaning, one arm each, in the table's order. -/

namespace Sys2Proof.Machine

def exec (i : Instr) (s : State) : Host.Outcome State Fault Refusal :=
  match i with
  | .powerOnReset => Sys2Proof.Machine.execPowerOnReset s
  | .crystalWaitEnd => Sys2Proof.Machine.execCrystalWaitEnd s
  | .pinReset => Sys2Proof.Machine.execPinReset s
  | .nresetRelease => Sys2Proof.Machine.execNresetRelease s
  | .imageLoadComplete => Sys2Proof.Machine.execImageLoadComplete s
  | .tenthsAdvance => Sys2Proof.Machine.execTenthsAdvance s
  | .supplyEvent reading => Sys2Proof.Machine.execSupplyEvent reading s
  | .inrushEnd opening => Sys2Proof.Machine.execInrushEnd opening s
  | .residualExpiry opening => Sys2Proof.Machine.execResidualExpiry opening s
  | .anemometerPulse => Sys2Proof.Machine.execAnemometerPulse s
  | .sampleEvent vaneFirst vaneSecond levels => Sys2Proof.Machine.execSampleEvent vaneFirst vaneSecond levels s
  | .forecastExpiry ftag => Sys2Proof.Machine.execForecastExpiry ftag s
  | .supervisionEvent => Sys2Proof.Machine.execSupervisionEvent s
  | .retryWaitEnd opening => Sys2Proof.Machine.execRetryWaitEnd opening s
  | .motionTimeout opening => Sys2Proof.Machine.execMotionTimeout opening s
  | .deadlineMissed opening => Sys2Proof.Machine.execDeadlineMissed opening s
  | .holdExpiry opening => Sys2Proof.Machine.execHoldExpiry opening s
  | .warningEnd opening => Sys2Proof.Machine.execWarningEnd opening s
  | .warningOutputs100msEvent => Sys2Proof.Machine.execWarningOutputs100msEvent s
  | .cadenceTurnover zone => Sys2Proof.Machine.execCadenceTurnover zone s
  | .panelFrame => Sys2Proof.Machine.execPanelFrame s
  | .nodeSupervisor100msEvent => Sys2Proof.Machine.execNodeSupervisor100msEvent s
  | .pollDue opening => Sys2Proof.Machine.execPollDue opening s
  | .arbiterStart => Sys2Proof.Machine.execArbiterStart s
  | .requestSent => Sys2Proof.Machine.execRequestSent s
  | .haltAllSent => Sys2Proof.Machine.execHaltAllSent s
  | .replyTimeout => Sys2Proof.Machine.execReplyTimeout s
  | .replyGapTimeout => Sys2Proof.Machine.execReplyGapTimeout s
  | .replyCharacterFault char => Sys2Proof.Machine.execReplyCharacterFault char s
  | .replyComplete chars => Sys2Proof.Machine.execReplyComplete chars s
  | .resendDelayEnd => Sys2Proof.Machine.execResendDelayEnd s
  | .quietWaitEnd => Sys2Proof.Machine.execQuietWaitEnd s
  | .svcreqAsserted => Sys2Proof.Machine.execSvcreqAsserted s
  | .svcreqReleased => Sys2Proof.Machine.execSvcreqReleased s
  | .serviceGrant => Sys2Proof.Machine.execServiceGrant s
  | .guardEnd => Sys2Proof.Machine.execGuardEnd s
  | .hostFrameComplete bytes => Sys2Proof.Machine.execHostFrameComplete bytes s
  | .hostFrameTimeout => Sys2Proof.Machine.execHostFrameTimeout s
  | .recordSent => Sys2Proof.Machine.execRecordSent s
  | .statusRead tag => Sys2Proof.Machine.execStatusRead tag s
  | .openingRead tag opening => Sys2Proof.Machine.execOpeningRead tag opening s
  | .openingWrite tag opening fields => Sys2Proof.Machine.execOpeningWrite tag opening fields s
  | .groupRead tag group copy => Sys2Proof.Machine.execGroupRead tag group copy s
  | .groupWrite tag group fields => Sys2Proof.Machine.execGroupWrite tag group fields s
  | .groupApply tag group => Sys2Proof.Machine.execGroupApply tag group s
  | .siteRead tag => Sys2Proof.Machine.execSiteRead tag s
  | .siteWrite tag fields => Sys2Proof.Machine.execSiteWrite tag fields s
  | .move tag opening target => Sys2Proof.Machine.execMove tag opening target s
  | .groupClose tag group => Sys2Proof.Machine.execGroupClose tag group s
  | .cancel tag opening => Sys2Proof.Machine.execCancel tag opening s
  | .stop tag opening => Sys2Proof.Machine.execStop tag opening s
  | .hold tag opening minutes => Sys2Proof.Machine.execHold tag opening minutes s
  | .forecast tag ftag onset duration gust mask => Sys2Proof.Machine.execForecast tag ftag onset duration gust mask s
  | .forecastWithdraw tag ftag => Sys2Proof.Machine.execForecastWithdraw tag ftag s
  | .jobsRead tag start => Sys2Proof.Machine.execJobsRead tag start s
  | .weatherRead tag part => Sys2Proof.Machine.execWeatherRead tag part s
  | .nodeRead tag opening => Sys2Proof.Machine.execNodeRead tag opening s
  | .countersReadClear tag => Sys2Proof.Machine.execCountersReadClear tag s
  | .alertsAck tag flags => Sys2Proof.Machine.execAlertsAck tag flags s
  | .storeSave tag => Sys2Proof.Machine.execStoreSave tag s
  | .storeErase tag => Sys2Proof.Machine.execStoreErase tag s
  | .storeLock tag verifies => Sys2Proof.Machine.execStoreLock tag verifies s
  | .restart tag => Sys2Proof.Machine.execRestart tag s
  | .eraseSectorDone blank => Sys2Proof.Machine.execEraseSectorDone blank s
  | .programSectorDone verified => Sys2Proof.Machine.execProgramSectorDone verified s
  | .sectorTimeout => Sys2Proof.Machine.execSectorTimeout s
  | .replyCharacterReceived char => Sys2Proof.Machine.execReplyCharacterReceived char s
  | .hostByteReceived byte => Sys2Proof.Machine.execHostByteReceived byte s
  | .logicSupplyLoss => Sys2Proof.Machine.execLogicSupplyLoss s

end Sys2Proof.Machine
end

