-- ==== Sys2Proof/WellFormed.lean ====
section
/-! DEFINITION. Which operands the outside can really give: field widths of section 8.5 and of the sensors. A command
outside these ranges cannot arrive; `exec` answers it all the same, as if the ranges were wider (log 29). -/

namespace Sys2Proof

/-- One payload byte. -/
def fitsByte (n : Nat) : Bool := n ≤ 255

/-- A two-byte number (R151). -/
def fitsWord (n : Nat) : Bool := n ≤ 65535

/-- OPENING-WRITE's fields in their widths (section 8.5). -/
def OpeningWire.wellFormed (w : OpeningWire) : Bool :=
  fitsByte w.address && fitsWord w.travel && fitsByte w.tolerance && fitsByte w.speed && fitsByte w.inrush
    && fitsByte w.run && fitsByte w.inrushDuration && fitsByte w.zone && fitsByte w.lamp

/-- GROUP-WRITE's fields in their widths; the frame's length bounds the members at 238 (R151, section 8.5). -/
def GroupWire.wellFormed (w : GroupWire) : Bool :=
  fitsByte w.bearing && fitsWord w.gustLimit && fitsWord w.meanLimit && fitsWord w.leeGrace
    && w.members.length ≤ 238 && w.members.all fitsByte

/-- SITE-WRITE's fields in their widths (R159). -/
def SiteWire.wellFormed (w : SiteWire) : Bool :=
  fitsWord w.factorK && fitsByte w.leeMargin && fitsWord w.calmHold && fitsByte w.rainMask && fitsWord w.shortLevel
    && fitsWord w.wetLevel && fitsWord w.openLevel && fitsByte w.rainConfirm && fitsWord w.dryConfirm
    && fitsWord w.forecastMargin && fitsByte w.retryLimit && fitsWord w.retryDelay && fitsWord w.manualAllowance
    && fitsWord w.budget && fitsWord w.derateStart && fitsWord w.cutoffVoltage && fitsByte w.warningInterval
    && w.tones.toList.all fitsByte && w.cadences.toList.all fitsByte && fitsByte w.rainLamp && fitsByte w.windLamp
    && fitsByte w.faultLamp && fitsByte w.supplyLamp && fitsByte w.replyTimeout && fitsWord w.alertMask

/-- A request whose every field fits its width in section 8.5. -/
def Request.wellFormed : Request → Bool
  | .statusRead | .siteRead | .countersReadClear | .storeSave | .storeErase | .storeLock _ | .restart => true
  | .openingRead n | .groupApply n | .groupClose n | .cancel n | .stop n | .forecastWithdraw n | .jobsRead n
  | .weatherRead n | .nodeRead n => fitsByte n
  | .openingWrite n w => fitsByte n && w.wellFormed
  | .groupRead g c => fitsByte g && fitsByte c
  | .groupWrite g w => fitsByte g && w.wellFormed
  | .siteWrite w => w.wellFormed
  | .move n t => fitsByte n && fitsWord t
  | .hold n m => fitsByte n && fitsByte m
  | .forecast t o d g m => fitsByte t && fitsWord o && fitsWord d && fitsWord g && fitsByte m
  | .alertsAck f => fitsWord f

/-- The tag and the request of a host request row; none for every other command. -/
def Instr.request? : Instr → Option (Nat × Request)
  | .statusRead t => some (t, .statusRead)
  | .openingRead t n => some (t, .openingRead n)
  | .openingWrite t n w => some (t, .openingWrite n w)
  | .groupRead t g c => some (t, .groupRead g c)
  | .groupWrite t g w => some (t, .groupWrite g w)
  | .groupApply t g => some (t, .groupApply g)
  | .siteRead t => some (t, .siteRead)
  | .siteWrite t w => some (t, .siteWrite w)
  | .move t n x => some (t, .move n x)
  | .groupClose t g => some (t, .groupClose g)
  | .cancel t n => some (t, .cancel n)
  | .stop t n => some (t, .stop n)
  | .hold t n m => some (t, .hold n m)
  | .forecast t a b c d e => some (t, .forecast a b c d e)
  | .forecastWithdraw t a => some (t, .forecastWithdraw a)
  | .jobsRead t n => some (t, .jobsRead n)
  | .weatherRead t n => some (t, .weatherRead n)
  | .nodeRead t n => some (t, .nodeRead n)
  | .countersReadClear t => some (t, .countersReadClear)
  | .alertsAck t f => some (t, .alertsAck f)
  | .storeSave t => some (t, .storeSave)
  | .storeErase t => some (t, .storeErase)
  | .storeLock t v => some (t, .storeLock v)
  | .restart t => some (t, .restart)
  | .powerOnReset | .crystalWaitEnd | .pinReset | .nresetRelease | .imageLoadComplete | .tenthsAdvance
  | .supplyEvent _ | .inrushEnd _ | .residualExpiry _ | .anemometerPulse | .sampleEvent _ _ _ | .forecastExpiry _
  | .supervisionEvent | .retryWaitEnd _ | .motionTimeout _ | .deadlineMissed _ | .holdExpiry _ | .warningEnd _
  | .warningOutputs100msEvent | .cadenceTurnover _ | .panelFrame | .nodeSupervisor100msEvent | .pollDue _
  | .arbiterStart | .requestSent | .haltAllSent | .replyTimeout | .replyGapTimeout | .replyCharacterFault _
  | .replyComplete _ | .resendDelayEnd | .quietWaitEnd | .svcreqAsserted | .svcreqReleased | .serviceGrant
  | .guardEnd | .hostFrameComplete _ | .hostFrameTimeout | .recordSent | .eraseSectorDone _ | .programSectorDone _
  | .sectorTimeout | .replyCharacterReceived _ | .hostByteReceived _ | .logicSupplyLoss => none

/-- The operands lie in the ranges the outside can give: openings 0 to 47, zones 0 to 3, forecast tags 1 to 255,
rain levels 0 to 1023, and for a host request the widths of its fields. -/
def Instr.wellFormed (i : Instr) : Bool :=
  match i with
  | .inrushEnd n | .residualExpiry n | .retryWaitEnd n | .motionTimeout n | .deadlineMissed n | .holdExpiry n
  | .warningEnd n | .pollDue n => n < 48
  | .cadenceTurnover z => z < 4
  | .forecastExpiry t => 1 ≤ t && t ≤ 255
  | .sampleEvent _ _ levels => levels.toList.all (· ≤ 1023)
  | _ =>
    match i.request? with
    | some (tag, r) => fitsByte tag && r.wellFormed
    | none => true

end Sys2Proof
end

