-- ==== Sys2Proof/Safety.lean ====
section
/-! DEFINITION. What claims say of states: the parts of State that a class of events never changes, and the invariants of
the CL-48. -/

namespace Sys2Proof.Machine

/-! ## Frames -/

/-- What no report, job, line or node operation changes: the queue of commands, the resets, the counts and the events
delivered, the configuration of site and openings, the weather, the supply readings, the panel, the store and the image. -/
structure Steady where
  pending : List Instr
  phase   : Phase
  cause   : StartCause
  nreset  : Bool
  svcreq  : Bool
  tenths  : Nat
  divider : Nat
  due     : Due
  site    : SiteRecord
  cfgs    : Vector OpeningCfg 48
  threats : Vector Threat 8
  weather : Weather
  supply  : Supply
  panel   : Panel
  store   : Store
  image   : Image
  free    : Nat
  deriving DecidableEq, Repr

/-- The steady part of a state. -/
def State.steady (s : State) : Steady :=
  ⟨s.pending, s.phase, s.cause, s.nreset, s.svcreq, s.tenths, s.divider, s.due, s.site, s.cfgs, s.threats, s.weather,
    s.supply, s.panel, s.store, s.image, s.freeUses⟩

/-- What the end of an event (R58, R122, R124) never changes: the steady part, the live fields, the groups, the held
list, the Host Link, the alerts, the counters, and of the line the reply buffer and its timer, the quiet wait, the
captures and the handover. -/
structure Calm where
  steady   : Steady
  lives    : Vector OpeningLive 48
  groups   : Vector Group 8
  held     : List HeldEntry
  paused   : Bool
  host     : HostLink
  alerts   : BitVec 11
  counters : Vector Nat 18
  replyBuf : List (Bool × Byte)
  timer    : Option Nat
  quiet    : Bool
  captures : Vector (Option Capture) 63
  handover : Handover
  deriving DecidableEq, Repr

/-- The calm part of a state. -/
def State.calm (s : State) : Calm :=
  ⟨s.steady, s.lives, s.groups, s.held, s.countingPaused, s.host, s.alerts, s.counters, s.line.replyBuf,
    s.line.replyTimer, s.line.quiet, s.line.captures, s.line.handover⟩

/-! ## What a command leaves -/

/-- The image as a reset leaves it: a sector that was being erased or programmed stays as it stands (R173, R175). -/
def State.interruptedImage (s : State) : Image :=
  match s.store.state with
  | .idle => s.image
  | .erasing _ k => s.image.unsettle k
  | .programming k => s.image.unsettle k

/-- The reset values with what no reset touches: the queue of commands, the pins, the image as left, and the count of
free values. -/
def State.resetKeeping (s : State) (image : Image) : State :=
  { State.reset with pending := s.pending, nreset := s.nreset, svcreq := s.svcreq, image := image, freeUses := s.freeUses }

/-- The state in which a request is handed to its owner: it is current (R154). -/
def State.taking (s : State) (tag : Nat) (r : Request) : State :=
  { s with host := { s.host with current := some ⟨r.typeCode, tag, r.payload⟩ } }

/-- The reply placed in its slot, and begun by an idle transmitter (R155, R156). -/
def State.replied (s : State) (tag : Nat) (r : Request) (code : ResultCode) (data : List Byte) : State :=
  { s with host := { s.host with reply := some ⟨r.typeCode + 128, tag, code, data⟩ }.transmit }

/-- What a request leaves that its owner takes with the given effect: the effect, the end of the event, the reply. -/
def State.answered (s : State) (tag : Nat) (r : Request) (code : ResultCode) (data : List Byte)
    (effect : State → State) : State :=
  (State.finish s.line.queue (effect (s.taking tag r))).replied tag r code data

/-- A running part that takes a request: none is current (R154). -/
def State.takes (s : State) : Prop := s.phase = .running ∧ s.host.current = none

/-- The reply to the request waits in its slot or is being sent (R155, R156). -/
def State.hasReply (s : State) (tag : Nat) (r : Request) (code : ResultCode) (data : List Byte) : Prop :=
  s.host.reply = some ⟨r.typeCode + 128, tag, code, data⟩
    ∨ s.host.sending = some (.reply ⟨r.typeCode + 128, tag, code, data⟩)

/-- No group waits for an apply (R19). -/
def State.noApplyWaits (s : State) : Prop := ∀ g, (s.group g).applyRequested = false

/-- A source was raised, or its deadline moved earlier (R45). -/
def SourceSharpened (old new : Option Nat) : Prop :=
  match old, new with
  | none, some _ => True
  | some x, some y => y < x
  | _, none => False

/-- The record is handed to the Closure Scheduler: a source was raised, or its deadline moved earlier (R45). -/
def Threat.HandedOff (old new : Threat) : Prop :=
  SourceSharpened old.wind new.wind ∨ SourceSharpened old.rain new.rain ∨ SourceSharpened old.forecast new.forecast

/-- No source is active (R40). -/
abbrev Threat.NoSource (x : Threat) : Prop := x.wind = none ∧ x.rain = none ∧ x.forecast = none

/-- An opening that in `s` is enabled, not held, not failed and not closed has in `t` a close job at least as urgent as the
record of group `g` there (R54). -/
def OpeningCovered (s t : State) (g i : Nat) : Prop :=
  (s.cfg i).enabled = true → s.isHeld i = false → (s.live i).failed = false → s.closed i = false →
    ∃ j, t.job? i = some j ∧ j.target = 0 ∧ (∀ r, (t.threat g).rank = some r → j.rank.code ≤ r.code)
      ∧ ∀ d, (t.threat g).deadline = some d → j.deadline ≤ d

/-- The FORECAST source of group `g` is the earliest lead deadline among the listed entries that concern the group and
qualify at its gust limit, and none without such an entry (R44). -/
def ForecastEvaluated (t : State) (gustLimit g : Nat) : Prop :=
  let bears := t.weather.forecasts.filter fun f =>
    (f.mask == 0 || f.mask.getLsbD g) && (f.gust == 0 || decide (gustLimit ≤ f.gust))
  match (t.threat g).forecast with
  | none => bears = []
  | some d => (∃ f ∈ bears, f.leadDeadline = d) ∧ ∀ f ∈ bears, d ≤ f.leadDeadline

/-- An episode starts with the first source and ends with the last (R46, R47): what episode start holds in a record that
was `old` and takes the sources of `new` at `now`. -/
def Threat.episodeAfter (now : Nat) (old new : Threat) : Option Nat :=
  if new.NoSource then none
  else if old.NoSource then some now
  else old.episodeStart

/-- What is left of the opening's entry when its job's path releases it: an entry that is marked or RESIDUAL stays, any
other goes (R89). -/
def State.entryReleased (s : State) (i : Nat) : Option Reservation :=
  match s.reservation? i with
  | none => none
  | some r => if r.marked || r.phase.isResidual then some r else none

/-- The entry of an opening whose node is lost while its job `j` is in RUNNING or STOPPING: an unmarked entry becomes
RESIDUAL, with its amount kept, until the remaining time of the job and 5 s more have passed (R90). -/
def State.entryLost (s : State) (i : Nat) (j : Job) : Option Reservation :=
  (s.reservation? i).map fun r =>
    if r.marked then r
    else { r with phase := .residual (s.tenths + 10 * ((match j.startedAt with
      | none => j.estimate
      | some start => j.estimate - (s.T - start)) + 5)) }

/-- What the loss of its node, taken in `s`, has made in `t` of the opening's job and of its entry (R89, R90, R147). -/
def LostJob (s t : State) (i : Nat) : Prop :=
  let ends : Job → JobOutcome → Prop := fun j outcome =>
    t.job? i = none ∧ (t.live i).lastOutcome = outcome
      ∧ (outcome.isFailure = true → (t.live i).failed = true ∧ t.alertSet .jobFailed = true)
      ∧ t.reservation? i = s.entryLost i j
  let stays := t.job? i = s.job? i ∧ t.reservation? i = s.reservation? i
  match s.job? i with
  | none => stays
  | some j => match j.state with
    | .queued => stays
    | .retryWait _ => stays
    | .announcing => stays
    | .dispatching => t.job? i = some { j with state := .queued } ∧ t.reservation? i = s.entryReleased i
    | .running => ends j .failedNodeLost
    | .stopping .cancelled => ends j .cancelled
    | .stopping .halted => ends j .halted
    | .stopping .failedTimeout => ends j .failedTimeout
    | .stopping .requeueClose =>
      t.job? i = some { j with state := .queued, target := 0, startedAt := none } ∧ t.reservation? i = s.entryLost i j

/-- A HALT for the opening waits in the queue, is in flight, or is pending (R121, R122). -/
def State.haltOwed (s : State) (i : Nat) : Prop :=
  (∃ r ∈ s.line.queue, r.isHalt = true ∧ r.opening? = some i)
    ∨ (∃ f, s.line.flight = some f ∧ f.request.isHalt = true ∧ f.request.opening? = some i)
    ∨ i ∈ s.line.pendingHalts

/-- A DRIVE for the opening with the target waits in the queue or is in flight (R62, R120). -/
def State.driveOwed (s : State) (i target : Nat) : Prop :=
  LineRequest.drive (s.cfg i).address i target ∈ s.line.queue
    ∨ ∃ f, s.line.flight = some f ∧ f.request = .drive (s.cfg i).address i target

/-- A request of the same kind for the same node as the POLL or IDENT `r` waits or is in flight (R123, R139). -/
def State.searchOwed (s : State) (r : LineRequest) : Prop :=
  s.meetsWaiting r = true
    ∨ ∃ f, s.line.flight = some f ∧ f.request.isSearch = true ∧ f.request.isPoll = r.isPoll ∧ f.request.address = r.address

/-- The notice waits in a slot or is being sent (R155, R156). -/
def State.tells (s : State) (n : Notice) : Prop := n ∈ s.host.notices ∨ s.host.sending = some (.notice n)

/-- The presence state and the two counts of a node record (R134). -/
def NodeRecord.standing (n : NodeRecord) : Presence × Nat × Nat := (n.presence, n.success, n.failure)

/-- The characters of a reply frame (R110): marked header 128 plus the address, the covered characters, the check. -/
def replyChars (address : Nat) (covered : List Byte) : List LineChar :=
  soundChar true (BitVec.ofNat 8 (128 + address)) :: (covered ++ [crc8 covered]).map (soundChar false)

/-- The covered characters of a STATUS reply (R110). -/
def statusCovered (seq position motion faults current : Nat) : List Byte :=
  [144#8, BitVec.ofNat 8 seq, BitVec.ofNat 8 (position / 256), BitVec.ofNat 8 position, BitVec.ofNat 8 motion,
    BitVec.ofNat 8 faults, BitVec.ofNat 8 current]

/-- The covered characters of an IDENT reply (R110). -/
def identCovered (seq travel : Nat) : List Byte :=
  [195#8, BitVec.ofNat 8 seq, BitVec.ofNat 8 (travel / 256), BitVec.ofNat 8 travel]

/-- The covered characters of a WAIT reply (R110). -/
def waitCovered (seq : Nat) : List Byte := [165#8, BitVec.ofNat 8 seq]

/-- A configuration whose every field has a place in the image (R174). -/
def ConfigCopy.storable (c : ConfigCopy) : Bool :=
  c.site.wire.wellFormed
    && (c.site.rainLamp != some 255 && c.site.windLamp != some 255 && c.site.faultLamp != some 255
      && c.site.supplyLamp != some 255)
    && c.cfgs.toList.all (fun x => x.wire.wellFormed && x.zone != some 255 && x.lamp != some 255)
    && c.actives.toList.all (fun r => r.wire.wellFormed && r.members.length ≤ 16 && r.bearing != .sector 8)

/-- The image after a save of the configuration: sectors 0 to 3 programmed in an erased image (R175). -/
def ConfigCopy.savedImage (c : ConfigCopy) : Image :=
  [0, 1, 2, 3].foldl (fun m k => m.programSector k ((c.bytes.drop (256 * k)).take 256)) ⟨[], []⟩

/-- The request with the store's answer to a lock put in (R176). -/
def withVerify (v : Bool) (r : Request) : Request :=
  match r with
  | .storeLock _ => .storeLock v
  | r => r

/-! ## Invariants -/

/-- The job queue stands in the order of R51, and each opening has at most one job. -/
def JobsOrdered (l : List Job) : Prop := l.Pairwise (fun a b => a.before b = true ∧ a.opening ≠ b.opening)

/-- Between events no trigger of the walk and no halt of the present event is left over (R58, R122). -/
def Settled (s : State) : Prop := s.walkDue = false ∧ s.line.newHalts = []

/-- The bounds of R27, R38, R76, R80, R156 and R169, and on the search class and the whole queue those of R119. -/
structure Capacities (s : State) : Prop where
  ring      : s.weather.ring.length ≤ 64
  forecasts : s.weather.forecasts.length ≤ 4
  held      : s.held.length ≤ 8
  readings  : s.supply.ring.length ≤ 4
  notices   : s.host.notices.length ≤ 7
  counters  : ∀ n ∈ s.counters.toList, n ≤ 65535

/-- The bounds of the line request queue (R119): at most 16 requests, of them at most 4 POLL and IDENT, no two POLL and no
two IDENT for one node, and at most one HALT-ALL. -/
structure QueueBounded (s : State) : Prop where
  total    : s.line.queue.length ≤ 16
  search   : searchCount s.line.queue ≤ 4
  distinct : (s.line.queue.filter (·.isSearch)).Pairwise fun a b => ¬(a.isPoll = b.isPoll ∧ a.address = b.address)
  haltAll  : (s.line.queue.filter (· == .haltAll)).length ≤ 1

/-- The run current of every opening is not above its inrush current (R1). -/
def CurrentsFit (cfgs : Vector OpeningCfg 48) : Prop := ∀ c ∈ cfgs.toList, c.run ≤ c.inrush

/-- The reservation table (R87): one entry per opening, the sum within B, and an entry that has not passed to RUN not
below the run current it will pass to. While a load is under way the table is empty. -/
structure ReservationsFit (s : State) : Prop where
  distinct : (s.reserv.map (·.opening)).Nodup
  sum      : reservedSum s.reserv ≤ s.site.budget
  starting : ∀ r ∈ s.reserv, (r.phase = .inrushWait ∨ ∃ e, r.phase = .inrush e) → (s.cfg r.opening).run ≤ r.amount
  currents : CurrentsFit s.cfgs
  loading  : s.phase = .loading → s.reserv = []

/-- At most 8 jobs are in ANNOUNCING and DISPATCHING together (R59, R95). -/
def StartsCapped (s : State) : Prop := s.startsUnderWay ≤ 8

/-- The openings of the DRIVE and HALT requests that wait, and of the pending halts. -/
def State.motionRequests (s : State) : List Nat :=
  (s.line.queue.filter fun r => r.isDrive || r.isHalt).filterMap LineRequest.opening?
    ++ s.line.pendingHalts ++ s.line.newHalts

/-- The opening's job stands in a state of the given kind. -/
def State.jobIn (s : State) (i : Nat) (p : JobState → Bool) : Prop := ∃ j, s.job? i = some j ∧ p j.state = true

/-- A DRIVE or HALT in flight for opening `i`, still reported to its job: the job waits for it, or a cutoff has taken the
job from it and the opening's entry is marked for HALT-ALL (R83, R84); and no second such request waits behind it. -/
structure FlightFollowsJob (s : State) (f : Flight) (i : Nat) : Prop where
  job   : s.jobIn i JobState.isStopping ∨ (f.request.isDrive = true ∧ s.jobIn i (· == .dispatching))
    ∨ ∃ r ∈ s.reserv, r.opening = i ∧ r.marked = true ∧ r.phase.isResidual = false
  drive : s.driveWaits i = false
  halt  : f.request.isHalt = true → i ∉ s.motionRequests

/-- What keeps out more than 8 DRIVE, two DRIVE or two HALT for one node, and a DRIVE beside a HALT for one node (R119):
every waiting DRIVE belongs to a job in DISPATCHING, every HALT that waits or is pending to a job in STOPPING, no opening
has two of them, a request in flight follows its job, and a job that moves has its own reservation. -/
structure MotionRequestsFollowJobs (s : State) : Prop where
  ordered : JobsOrdered s.jobs
  capped  : StartsCapped s
  settled : Settled s
  once    : s.motionRequests.Nodup
  drives  : ∀ r ∈ s.line.queue, r.isDrive = true → ∃ i, r.opening? = some i ∧ s.jobIn i (· == .dispatching)
  halts   : ∀ r ∈ s.line.queue, r.isHalt = true → ∃ i, r.opening? = some i ∧ s.jobIn i JobState.isStopping
  pending : ∀ i ∈ s.line.pendingHalts, s.jobIn i JobState.isStopping
  flight  : ∀ f i, s.line.flight = some f → f.detached = false → (f.request.isDrive || f.request.isHalt) = true →
    f.request.opening? = some i → FlightFollowsJob s f i
  entries : (s.reserv.map (·.opening)).Nodup
  moving  : ∀ j ∈ s.jobs, j.state.moving = true →
    ∃ r ∈ s.reserv, r.opening = j.opening ∧ r.marked = false ∧ r.phase.isResidual = false

/-- A level flag is set exactly while its condition holds (R165); while a load is under way no condition holds and no
flag is set. -/
structure LevelFlagsFollow (s : State) : Prop where
  supplyLow : s.phase = .running → (s.alertSet .supplyLow = true ↔ s.supply.cutoff = true)
  vane      : s.phase = .running → (s.alertSet .vaneUnknown = true ↔ s.weather.vaneFault = true)
  sensor    : s.phase = .running → (s.alertSet .rainSensorFault = true ↔ s.weather.sensorFault = true)
  image     : s.phase = .running →
    (s.alertSet .storeInvalid = true ↔ s.store.state = .idle ∧ s.store.valid = false)
  service   : s.phase = .running → (s.alertSet .serviceActive = true ↔ s.line.handover = .granted)
  loading   : s.phase = .loading →
    s.alerts = 0 ∧ s.supply.cutoff = false ∧ s.weather.disagree = 0 ∧ s.weather.sensorFault = false
      ∧ s.line.handover = .line

/-- A zone sounds exactly while it has a holder (R98): an entry of the warning table in it or, under sound while moving, a
job in RUNNING whose opening is enabled and names the zone. A silent zone has its phase OFF and its count at 0, and no
count passes 4 between events (R99). -/
structure ZonesFollowHolders (s : State) : Prop where
  sounding : s.phase = .running → ∀ z, z < 4 → ((s.zone z).sounding = true ↔ (∃ w ∈ s.warnings, w.zone = z)
    ∨ s.site.soundMoving = true ∧ ∃ j ∈ s.jobs, j.state = .running ∧ (s.cfg j.opening).enabled = true
        ∧ (s.cfg j.opening).zone = some z)
  silent   : ∀ z, z < 4 → (s.zone z).sounding = false → (s.zone z).phaseOn = false ∧ (s.zone z).count = 0
  count    : ∀ z, z < 4 → (s.zone z).count ≤ 4

/-- While the grant is asserted, or its guard runs, no request is in flight (R128, R130). -/
def GrantedLineFree (s : State) : Prop := (s.line.handover = .granted ∨ s.line.handover = .guarding) → s.line.flight = none

/-- An image in canonical form (R174): addresses strictly rising, no listed byte erased. -/
def ImageCanonical (s : State) : Prop := s.image.wf = true

end Sys2Proof.Machine
end

