-- ==== Sys2Proof/Certificates/Slice0/Obligations.lean ====
section
/-! DEFINITION. The statements for the provers. `t.calm` and `t.steady` are the frames of Safety.lean: an equation of
them says that everything in them but what is named stays. -/

open Sys2Proof Sys2Proof.Machine

/-! ## The queue, the resets and the Time Base -/

/-- A step takes the command at the front of the queue and runs it on the rest. -/
def Obligations.StepTakesFrontCommand : Prop :=
  ∀ (s : State) (c : Instr) (rest : List Instr), s.pending = c :: rest → step s = exec c { s with pending := rest }

/-- POWER_ON_RESET and LOGIC_SUPPLY_LOSS (section 10.2): the crystal wait begins or the part is held unpowered, and every
output is inactive. That the volatile state is at its reset values from that very event on, where R172 clears the blocks
at step 4, is the model's choice (log 19, DEDUCED), and what an interrupted store operation leaves of the image is the
model's too (log 17). CRYSTAL_WAIT_END (R172, steps 2 to 5): with NRESET high every block is cleared and the load begins;
with NRESET low the part is held with the counts at 0 and the dividers started. -/
def Obligations.PowerOnBeginsAndWaits : Prop :=
  (∀ s : State,
    exec .powerOnReset s = .next { s.resetKeeping s.interruptedImage with phase := .crystalWait }
      ∧ exec .logicSupplyLoss s = .next { s.resetKeeping s.interruptedImage with phase := .unpowered }
      ∧ ({ s.resetKeeping s.interruptedImage with phase := .crystalWait } : State).outputs = inactiveOutputs
      ∧ ({ s.resetKeeping s.interruptedImage with phase := .unpowered } : State).outputs = inactiveOutputs)
  ∧ (∀ s : State, s.phase = .crystalWait →
    exec .crystalWaitEnd s =
      .next (if s.nreset then s.resetKeeping s.image else { s with phase := .heldPower, tenths := 0, divider := 0 }))

/-- PIN_RESET in the running part (R172): outputs inactive, the counts at 0, the line, the host port and the store
stopped where they stand. NRESET_RELEASE (R172): every block takes its reset values, counters and counts are 0, and the
load begins; the cause is PIN after a pin reset and POWER after the hold of a power-on reset, and the dividers restart
after a pin reset and run on from the end of the wait after a power-on reset (R94). What an interrupted store operation
leaves of the image is the model's choice (log 17). -/
def Obligations.PinResetHoldsAndReleases : Prop :=
  (∀ s : State, s.phase = .running →
    ∃ t, exec .pinReset s = .next t ∧ t.outputs = inactiveOutputs
      ∧ t = { s with
                nreset := false, phase := .heldPin, cause := .pin, tenths := 0, line := resetLine, host := resetHost
                image := s.interruptedImage, store := if s.store.state = .idle then s.store else resetStore })
  ∧ (∀ s : State, s.phase = .heldPin ∨ s.phase = .heldPower →
    exec .nresetRelease s =
      .next { s.resetKeeping s.image with
        nreset := true, cause := if s.phase = .heldPin then .pin else .power
        divider := if s.phase = .heldPin then 0 else s.divider })

/-- IMAGE_LOAD_COMPLETE with no valid image (R2, R14, R166, R172, R174): the defaults, the lock clear, every node due,
STARTED first and the notice of STORE_INVALID after it. IMAGE_LOAD_COMPLETE with a valid image (R2, R14, R134, R174): its
site record, openings and active copies, each pending copy equal to the active one, every node due, and the store lock
set when the lock byte reads 5Ah. IMAGE_LOAD_COMPLETE with SVCREQ asserted (R127, R128): the controller takes the
assertion in this event, and with the line free and no threat the grant is given, SERVICE_ACTIVE raised after
STORE_INVALID; that these rules win over R165 and R168 here is the model's choice (log 47). The first events after the
load are those of its first advance (R171). -/
def Obligations.LoadTakesTheImage : Prop :=
  (∀ s : State, s.phase = .loading → s.image.valid = false → s.host = resetHost → s.alerts = 0 → s.svcreq = false →
    ∃ t, exec .imageLoadComplete s = .next t ∧ t.phase = .running ∧ t.site = defaultSite ∧ t.cfgs = defaultCfgs
      ∧ t.groups = Vector.replicate 8 resetGroup ∧ t.store = ⟨.idle, false, false, none⟩
      ∧ t.nodes = Vector.replicate 48 (freshNode s.tenths)
      ∧ t.host = { resetHost with
          sending := some (.notice (.started s.cause)), notices := [.alertRaised .storeInvalid none] }
      ∧ (∀ f, t.alertSet f = true ↔ f = .storeInvalid) ∧ t.tenths = s.tenths ∧ t.counters = s.counters
      ∧ t.image = s.image ∧ t.lives = s.lives ∧ t.held = s.held ∧ t.pending = s.pending ∧ t.due = s.due)
  ∧ (∀ s : State, s.phase = .loading → s.image.valid = true → s.host = resetHost → s.svcreq = false →
    ∃ t, exec .imageLoadComplete s = .next t ∧ t.phase = .running
      ∧ t.site = (configOfContent s.image.content).site ∧ t.cfgs = (configOfContent s.image.content).cfgs
      ∧ t.groups = (configOfContent s.image.content).actives.map (fun r => ⟨r, r, false⟩)
      ∧ t.store = ⟨.idle, true, decide (s.image.read 2047 = 0x5A#8), none⟩
      ∧ t.nodes = Vector.replicate 48 (freshNode s.tenths)
      ∧ t.host = { resetHost with sending := some (.notice (.started s.cause)) }
      ∧ t.alerts = s.alerts ∧ t.tenths = s.tenths ∧ t.counters = s.counters ∧ t.image = s.image ∧ t.due = s.due)
  ∧ (∀ s : State, s.phase = .loading → s.svcreq = true → s.host = resetHost → s.alerts = 0 → s.line = resetLine →
    s.windOrRain = false →
    ∃ t, exec .imageLoadComplete s = .next t ∧ t.phase = .running ∧ t.line.handover = .granted
      ∧ t.countingPaused = true ∧ t.nodes = Vector.replicate 48 (freshNode s.tenths)
      ∧ t.site = s.image.config.site ∧ t.cfgs = s.image.config.cfgs
      ∧ t.host = { resetHost with
          sending := some (.notice (.started s.cause))
          notices := (if s.image.valid then [] else [.alertRaised .storeInvalid none])
            ++ [.alertRaised .serviceActive none] }
      ∧ ∀ f, t.alertSet f = true ↔ f = .serviceActive ∨ f = .storeInvalid ∧ s.image.valid = false)

/-- A saved configuration is read back as it was (R174, R175): the image that a save leaves is valid, and the load takes
from it the very configuration saved. -/
def Obligations.SavedConfigurationLoadsBack : Prop :=
  ∀ c : ConfigCopy, c.storable = true → c.savedImage.valid = true ∧ c.savedImage.config = c ∧ c.savedImage.wf = true

/-- TENTHS_ADVANCE (R171): in the running part the tenths count rises by one, and T when the tenths within the second were
9; a 100 ms event is delivered to the Supply Budget Unit, Warning Outputs and the Node Supervisor, and on the carry a 1 s
event to the Weather Monitor and the Closure Scheduler. In the load of a RESTART the counts go on and no event is
delivered (R173). A command of an event that no advance has delivered finds nothing to take (R171; that a delivered event
waits in a count until its own command takes it is the model's choice, log 5). With no command waiting, a step of the
running part is one crystal cycle: the dividers advance, of the zones only the tones on their lines may change, and the
panel's scan goes on (the model's choice, log 3 and log 31). -/
def Obligations.TimeBase : Prop :=
  (∀ s : State, s.phase = .running →
    (let carry := if s.tenths % 10 = 9 then 1 else 0
     let t : State := { s with
       tenths := s.tenths + 1
       due := ⟨s.due.supply + 1, s.due.warnings + 1, s.due.nodes + 1, s.due.sample + carry, s.due.supervision + carry,
         s.due.turned⟩ }
     exec .tenthsAdvance s = .next t ∧ t.T = s.T + carry))
  ∧ (∀ s : State, s.phase = .loading → s.cause = .restart →
    exec .tenthsAdvance s = .next { s with tenths := s.tenths + 1 })
  ∧ (∀ (s : State) (k raw : Nat) (v1 v2 : BitVec 3) (levels : Vector Nat 4),
    (s.due.supply = 0 → ∀ c ∈ [Instr.supplyEvent raw, .inrushEnd k, .residualExpiry k], exec c s = .next s)
      ∧ (s.due.warnings = 0 →
        ∀ c ∈ [Instr.warningOutputs100msEvent, .warningEnd k, .cadenceTurnover k], exec c s = .next s)
      ∧ (s.due.nodes = 0 → ∀ c ∈ [Instr.nodeSupervisor100msEvent, .pollDue k], exec c s = .next s)
      ∧ (s.due.sample = 0 → ∀ c ∈ [Instr.sampleEvent v1 v2 levels, .forecastExpiry k], exec c s = .next s)
      ∧ (s.due.supervision = 0 →
        ∀ c ∈ [Instr.supervisionEvent, .retryWaitEnd k, .motionTimeout k, .deadlineMissed k, .holdExpiry k],
          exec c s = .next s))
  ∧ (∀ s : State, s.pending = [] → s.phase = .running →
    ∃ t, step s = .next t ∧ t.divider = (s.divider + 1) % 32768
      ∧ t = { s with divider := t.divider, zones := t.zones, panel := { s.panel with cycles := t.panel.cycles } }
      ∧ t.panel.cycles = min (s.panel.cycles + 1) 524
      ∧ ∀ z, z < 4 → t.zone z = { s.zone z with lineTone := (t.zone z).lineTone })

/-! ## Motor supply -/

/-- Beff (R81): B at and above Vd, 0 at and below Vc, else the part of B between them; never above B. -/
def Obligations.EffectiveBudget : Prop :=
  ∀ s : State, s.site.cutoffVoltage < s.site.derateStart →
    s.beff = (if s.site.derateStart ≤ s.supply.volts then s.site.budget
      else if s.supply.volts ≤ s.site.cutoffVoltage then 0
      else s.site.budget * (s.supply.volts - s.site.cutoffVoltage) / (s.site.derateStart - s.site.cutoffVoltage))
      ∧ s.beff ≤ s.site.budget

/-- SUPPLY_EVENT outside cutoff that does not begin one (R80, R82): the reading, at most 400, enters the ring of four,
and the low-reading run counts. In cutoff the reading enters the ring too (R80); one at or above Vc + 10 ends the cutoff
and clears SUPPLY_LOW, and a lower one leaves the part in cutoff (R86). -/
def Obligations.SupplyReadings : Prop :=
  (∀ (s : State) (raw : Nat), s.phase = .running → 0 < s.due.supply → s.supply.cutoff = false →
    (min raw 400 ≤ s.site.cutoffVoltage → s.supply.lowRun < 2) →
    ∃ t, exec (.supplyEvent raw) s = .next t
      ∧ t.supply = {
          ring := (if s.supply.ring.length < 4 then s.supply.ring else s.supply.ring.drop 1) ++ [min raw 400]
          cutoff := false
          lowRun := if min raw 400 ≤ s.site.cutoffVoltage then s.supply.lowRun + 1 else 0 }
      ∧ t.calm = { s.takeSupply with supply := t.supply }.calm)
  ∧ (∀ (s : State) (raw : Nat), s.phase = .running → 0 < s.due.supply → s.supply.cutoff = true →
    ∃ t, exec (.supplyEvent raw) s = .next t
      ∧ t.supply = {
          ring := (if s.supply.ring.length < 4 then s.supply.ring else s.supply.ring.drop 1) ++ [min raw 400]
          cutoff := if s.site.cutoffVoltage + 10 ≤ min raw 400 then false else true
          lowRun := s.supply.lowRun }
      ∧ t.alertSet .supplyLow = (if s.site.cutoffVoltage + 10 ≤ min raw 400 then false else s.alertSet .supplyLow)
      ∧ t.calm = { s.takeSupply with supply := t.supply, alerts := t.alerts }.calm)

/-- A third low reading begins cutoff (R82, R83, R84): no DRIVE and no HALT waits, HALT-ALL waits or is in flight, every
job is in QUEUED or RETRY_WAIT, every reservation is marked or RESIDUAL, SUPPLY_LOW is set and CUTOFFS counted. No entry
that is not RESIDUAL is dropped: each is kept and marked, and only what the event ends by its own time moves on, an INRUSH
entry to RUN and a RESIDUAL entry out (R88, R91). Each job goes by its state: QUEUED and RETRY_WAIT stay; ANNOUNCING, its
warning withdrawn, DISPATCHING and RUNNING return to QUEUED; STOPPING follows its after-stop path, to the end CANCELLED or
HALTED, or to QUEUED, and FAILED_TIMEOUT ends CANCELLED when its opening is held. -/
def Obligations.CutoffBegins : Prop :=
  ∀ (s : State) (raw : Nat), s.phase = .running → 0 < s.due.supply → s.supply.cutoff = false → s.supply.lowRun = 2 →
    min raw 400 ≤ s.site.cutoffVoltage → s.noApplyWaits → JobsOrdered s.jobs →
    ∃ t, exec (.supplyEvent raw) s = .next t ∧ t.supply.cutoff = true ∧ t.supply.lowRun = 0
      ∧ (∀ r ∈ t.line.queue, r.isDrive = false ∧ r.isHalt = false)
      ∧ (.haltAll ∈ t.line.queue ∨ ∃ f, t.line.flight = some f ∧ f.request = .haltAll)
      ∧ t.line.pendingHalts = []
      ∧ (∀ j ∈ t.jobs, j.state = .queued ∨ j.state.isRetryWait = true)
      ∧ (∀ r ∈ t.reserv, r.marked = true ∨ r.phase.isResidual = true)
      ∧ t.reserv = s.reserv.filterMap (fun r => match r.phase with
        | .residual e => if e ≤ s.tenths then none else some r
        | .inrush e =>
          if e ≤ s.tenths then some { r with phase := .run, amount := (s.cfg r.opening).run, marked := true }
          else some { r with marked := true }
        | .inrushWait => some { r with marked := true }
        | .run => some { r with marked := true })
      ∧ (∀ i, s.job? i = none → t.job? i = none)
      ∧ (∀ (i : Nat) (j : Job), s.job? i = some j → i < 48 →
        (let requeued : Job := { j with state := .queued, startedAt := none }
         let ends : JobOutcome → Prop := fun outcome => t.job? i = none ∧ (t.live i).lastOutcome = outcome
         match j.state with
         | .queued => t.job? i = some j
         | .retryWait _ => t.job? i = some j
         | .announcing => t.job? i = some requeued ∧ ∀ w ∈ t.warnings, w.opening ≠ i
         | .dispatching => t.job? i = some requeued
         | .running => t.job? i = some requeued
         | .stopping .requeueClose => t.job? i = some { requeued with target := 0 }
         | .stopping .cancelled => ends .cancelled
         | .stopping .halted => ends .halted
         | .stopping .failedTimeout => if s.isHeld i = true then ends .cancelled else t.job? i = some requeued))
      ∧ t.alertSet .supplyLow = true ∧ t.counter .cutoffs = min (s.counter .cutoffs + 1) 65535
      ∧ t.steady = { s.takeSupply with supply := t.supply }.steady ∧ t.groups = s.groups ∧ t.held = s.held

/-- INRUSH_END (R88): an INRUSH entry whose expiry has come goes to RUN with the run current, and the walk is triggered.
RESIDUAL_EXPIRY (R91, R89): a RESIDUAL entry whose expiry has come is released, and the walk is triggered. -/
def Obligations.ReservationsExpire : Prop :=
  (∀ (s : State) (r : Reservation) (e : Nat), s.phase = .running → 0 < s.due.supply → (s.reserv.map (·.opening)).Nodup →
    r ∈ s.reserv → r.phase = .inrush e → e ≤ s.tenths →
    exec (.inrushEnd r.opening) s = .next (State.finish s.line.queue
      { s with
        walkDue := true
        reserv := s.reserv.map fun x =>
          if x.opening = r.opening then { x with phase := .run, amount := (s.cfg r.opening).run } else x }))
  ∧ (∀ (s : State) (r : Reservation) (e : Nat), s.phase = .running → 0 < s.due.supply → (s.reserv.map (·.opening)).Nodup →
    r ∈ s.reserv → r.phase = .residual e → e ≤ s.tenths →
    exec (.residualExpiry r.opening) s = .next (State.finish s.line.queue
      { s with walkDue := true, reserv := s.reserv.filter fun x => x.opening != r.opening }))

/-- The reservation table holds one entry per opening and its sum never exceeds B (R87), whatever command a step runs.
The premise on the image is on what a load may find there. -/
def Obligations.ReservationsStayWithinBudget : Prop :=
  ∀ s t : State, CurrentsFit s.image.config.cfgs → ReservationsFit s → step s = .next t → ReservationsFit t

/-! ## Weather -/

/-- ANEMOMETER_PULSE and the speed of a sample (R26): the count rises to at most 4095, and a sample takes floor(n x K /
64), at most 600, and starts the count at 0; a reset leaves count and speed 0. -/
def Obligations.WindSpeed : Prop :=
  ∀ (s : State) (v1 v2 : BitVec 3) (levels : Vector Nat 4), s.phase = .running →
    exec .anemometerPulse s = .next { s with weather := { s.weather with pulses := min (s.weather.pulses + 1) 4095 } }
      ∧ (0 < s.due.sample → ∃ t, exec (.sampleEvent v1 v2 levels) s = .next t ∧ t.weather.pulses = 0
        ∧ t.weather.speed = min (s.weather.pulses * s.site.factorK / 64) 600
        ∧ t.steady = { s.takeSampleEvent with weather := t.weather, threats := t.threats }.steady)
      ∧ ∀ image, (s.resetKeeping image).weather.pulses = 0 ∧ (s.resetKeeping image).weather.speed = 0

/-- Gust and mean at a sample (R28): over the ring with the new speed in it, the greatest of the three newest entries
and the floor of the average; 0 with an empty ring; within 0 to 600. -/
def Obligations.GustAndMean : Prop :=
  (∀ w : Weather, w.ring = [] → w.gust = 0 ∧ w.mean = 0)
    ∧ ∀ (s : State) (v1 v2 : BitVec 3) (levels : Vector Nat 4), s.phase = .running → 0 < s.due.sample →
      ∃ t, exec (.sampleEvent v1 v2 levels) s = .next t
        ∧ t.weather.ring = (if s.weather.ring.length < 64 then s.weather.ring else s.weather.ring.drop 1)
            ++ [min (s.weather.pulses * s.site.factorK / 64) 600]
        ∧ t.weather.gust ∈ t.weather.ring.drop (t.weather.ring.length - 3)
        ∧ (∀ v ∈ t.weather.ring.drop (t.weather.ring.length - 3), v ≤ t.weather.gust)
        ∧ t.weather.mean * t.weather.ring.length ≤ t.weather.ring.sum
        ∧ t.weather.ring.sum < (t.weather.mean + 1) * t.weather.ring.length
        ∧ ((∀ v ∈ s.weather.ring, v ≤ 600) → t.weather.gust ≤ 600 ∧ t.weather.mean ≤ 600)

/-- The vane at a sample (R29, R30, section 9.1): an agreeing pair gives its sector, ends the count and clears VANE_UNKNOWN; a
disagreeing pair counts, and the fourth makes the direction UNKNOWN and raises VANE_UNKNOWN. -/
def Obligations.VaneReads : Prop :=
  ∀ (s : State) (v1 v2 : BitVec 3) (levels : Vector Nat 4), s.phase = .running → 0 < s.due.sample → s.weather.disagree ≤ 4 →
    ∃ t, exec (.sampleEvent v1 v2 levels) s = .next t
      ∧ (if v1 = v2 then
          t.weather.direction = [0, 1, 3, 2, 7, 6, 4, 5][v1.toNat]? ∧ t.weather.disagree = 0
            ∧ t.counter .vaneDisagree = s.counter .vaneDisagree
        else
          t.weather.direction = (if s.weather.disagree < 3 then s.weather.direction else none)
            ∧ t.weather.disagree = min (s.weather.disagree + 1) 4
            ∧ t.counter .vaneDisagree = min (s.counter .vaneDisagree + 1) 65535)
      ∧ t.alertSet .vaneUnknown = (t.weather.disagree == 4)

/-- A rain sensor at a sample (R33 to R36): its level and class, and its state, since and runs by the tables. -/
def Obligations.RainSensorMoves : Prop :=
  ∀ (s : State) (v1 v2 : BitVec 3) (levels : Vector Nat 4) (k : Nat) (hk : k < 4), s.phase = .running →
    0 < s.due.sample →
    ∃ t, exec (.sampleEvent v1 v2 levels) s = .next t
      ∧ (let x := s.weather.input k
         let y := t.weather.input k
         let r := s.site
         y.level = levels[k]
          ∧ y.kind = (if levels[k] ≤ r.shortLevel then .short else if r.openLevel ≤ levels[k] then .open
              else if levels[k] < r.wetLevel then .wet else .dry)
          ∧ (y.state, y.since, y.outRun, y.inRun) =
            (if r.rainMask.getLsbD k = false then (.dry, none, 0, 0)
             else if y.kind = .short ∨ y.kind = .open then
               if x.state = .fault then (.fault, x.since, x.outRun, 0)
               else if 3 ≤ x.outRun + 1 then (.fault, none, 0, 0)
               else (x.state, x.since, x.outRun + 1, x.inRun)
             else
               match x.state, decide (y.kind = .wet) with
               | .dry, true => (.wetting, some s.T, 0, x.inRun)
               | .dry, false => (.dry, x.since, 0, x.inRun)
               | .wetting, true =>
                 if ∃ c, x.since = some c ∧ r.rainConfirm ≤ s.T - c then (.wet, none, 0, x.inRun)
                 else (.wetting, x.since, 0, x.inRun)
               | .wetting, false => (.dry, none, 0, x.inRun)
               | .wet, true => (.wet, x.since, 0, x.inRun)
               | .wet, false => (.drying, some s.T, 0, x.inRun)
               | .drying, true => (.wet, none, 0, x.inRun)
               | .drying, false =>
                 if ∃ c, x.since = some c ∧ r.dryConfirm ≤ s.T - c then (.dry, none, 0, x.inRun)
                 else (.drying, x.since, 0, x.inRun)
               | .fault, true =>
                 if 3 ≤ x.inRun + 1 then (.wetting, some s.T, x.outRun, 0)
                 else (.fault, x.since, x.outRun, x.inRun + 1)
               | .fault, false =>
                 if 3 ≤ x.inRun + 1 then (.dry, none, x.outRun, 0)
                 else (.fault, x.since, x.outRun, x.inRun + 1)))

/-- The rain conditions at a sample (R37), and RAIN_SENSOR_FAULT as the sensor fault condition (R165). -/
def Obligations.RainConditions : Prop :=
  ∀ (s : State) (v1 v2 : BitVec 3) (levels : Vector Nat 4), s.phase = .running → 0 < s.due.sample →
    ∃ t, exec (.sampleEvent v1 v2 levels) s = .next t
      ∧ (t.weather.rainUnknown = true ↔ (∃ k, k < 4 ∧ s.site.rainMask.getLsbD k = true)
          ∧ ∀ k, k < 4 → s.site.rainMask.getLsbD k = true → (t.weather.input k).state = .fault)
      ∧ (t.weather.rainPresent = true ↔ (∃ k, k < 4 ∧ s.site.rainMask.getLsbD k = true
          ∧ ((t.weather.input k).state = .wet ∨ (t.weather.input k).state = .drying))
          ∨ t.weather.rainUnknown = true ∧ s.site.failClosed = true)
      ∧ (t.weather.firstDrop = true ↔ (∃ k, k < 4 ∧ s.site.rainMask.getLsbD k = true
          ∧ (t.weather.input k).state = .wetting) ∨ t.weather.rainPresent = true)
      ∧ (t.weather.sensorFault = true ↔ ∃ k, k < 4 ∧ s.site.rainMask.getLsbD k = true ∧ (t.weather.input k).state = .fault)
      ∧ t.alertSet .rainSensorFault = t.weather.sensorFault

/-- The WIND source of each group at a sample (R31, R32, R41, R47): raised at a limit with the present T, cleared once
calm samples have lasted the calm hold; calm since is set by the first calm sample, kept by calm samples, and ended by a
raise, by a sample that is not calm, by the clearing and with the episode; a lee facade's limits are raised by the lee
margin. The RAIN source of each group at a sample (R42, R43): raised and cleared with the group's rain condition; a lee
facade's deadline is put off by its lee grace and brought to the present when the group is no longer lee. -/
def Obligations.WindAndRainSources : Prop :=
  (∀ (s : State) (v1 v2 : BitVec 3) (levels : Vector Nat 4) (g : Nat), s.phase = .running →
    0 < s.due.sample → g < 8 →
    ∃ t, exec (.sampleEvent v1 v2 levels) s = .next t
      ∧ (let r := (s.group g).active
         let lee : Bool := match r.bearing, t.weather.direction with
           | .sector b, some d => 1 < min ((d - b) + (b - d)) (8 - ((d - b) + (b - d)))
           | _, _ => false
         let gustLimit := if lee then min (r.gustLimit + s.site.leeMargin) 600 else r.gustLimit
         let meanLimit := if lee then min (r.meanLimit + s.site.leeMargin) 600 else r.meanLimit
         let calm : Bool := t.weather.gust < gustLimit * 7 / 8 && t.weather.mean < meanLimit * 7 / 8
         let since := (s.threat g).calmSince.getD s.T
         let raised : Bool := gustLimit ≤ t.weather.gust || meanLimit ≤ t.weather.mean
         let calmOver : Bool := calm && s.site.calmHold ≤ s.T - since
         let ended : Bool := (t.threat g).wind.isNone && (t.threat g).rain.isNone && (t.threat g).forecast.isNone
         ((t.threat g).wind =
           match (s.threat g).wind with
           | none => if raised then some s.T else none
           | some d => if calmOver then none else some d)
         ∧ (t.threat g).calmSince =
           match (s.threat g).wind with
           | none => if raised || ended then none else (s.threat g).calmSince
           | some _ => if calm && !calmOver then some since else none))
  ∧ (∀ (s : State) (v1 v2 : BitVec 3) (levels : Vector Nat 4) (g : Nat), s.phase = .running →
    0 < s.due.sample → g < 8 →
    ∃ t, exec (.sampleEvent v1 v2 levels) s = .next t
      ∧ (let r := (s.group g).active
         let lee : Bool := match r.bearing, t.weather.direction with
           | .sector b, some d => 1 < min ((d - b) + (b - d)) (8 - ((d - b) + (b - d)))
           | _, _ => false
         let holds : Bool := t.weather.rainPresent || (r.firstDrop && t.weather.firstDrop)
         (t.threat g).rain =
           if holds then
             match (s.threat g).rain with
             | none => some (if lee then s.T + r.leeGrace else s.T)
             | some d => if lee then some d else some (if s.T < d then s.T else d)
           else none))

/-- The FORECAST source and the episode of each group at a sample (R39, R44, R46, R47): the earliest lead deadline among
the entries that have not run out, concern the group and qualify; an episode starts with the first source and ends with
the last. -/
def Obligations.ForecastSourceAndEpisode : Prop :=
  ∀ (s : State) (v1 v2 : BitVec 3) (levels : Vector Nat 4) (g : Nat), s.phase = .running →
    0 < s.due.sample → g < 8 →
    ∃ t, exec (.sampleEvent v1 v2 levels) s = .next t
      ∧ t.weather.forecasts = s.weather.forecasts.filter (fun f => decide (s.T < f.endsAt))
      ∧ (let bears := t.weather.forecasts.filter fun f =>
           (f.mask == 0 || f.mask.getLsbD g) && (f.gust == 0 || decide ((s.group g).active.gustLimit ≤ f.gust))
         match (t.threat g).forecast with
         | none => bears = []
         | some d => (∃ f ∈ bears, f.leadDeadline = d) ∧ ∀ f ∈ bears, d ≤ f.leadDeadline)
      ∧ (t.threat g).episodeStart =
          (if (t.threat g).wind = none ∧ (t.threat g).rain = none ∧ (t.threat g).forecast = none then none
           else if (s.threat g).wind = none ∧ (s.threat g).rain = none ∧ (s.threat g).forecast = none then some s.T
           else (s.threat g).episodeStart)

/-- A group's record takes new values (R45, R46, R47): the record is handed off when a source was raised or its deadline
moved earlier, and then every active member that is enabled, not held, not failed and not closed has a close job at least
as urgent as the record, while the jobs stay as they are without a hand-off; a THREAT-CHANGE notice is placed when the
level changed, and only then; and the end of the episode, and nothing else here, clears the failure status of the active
members. A SAMPLE_EVENT does all this for every group (R24): each record that the sample handed off has its active members
covered, a level that changed is told while the slots have room for the notices before it, and the failure status of an
opening is cleared when the episode of a group of which it is an active member ends, and stays otherwise. -/
def Obligations.ThreatChangesAreHandedOff : Prop :=
  (∀ (s : State) (g : Nat) (evaluated : Threat), g < 8 → s.noApplyWaits →
    (let old := s.threat g
     let t := s.updateThreat g evaluated
     let new := t.threat g
     new.wind = evaluated.wind ∧ new.rain = evaluated.rain ∧ new.forecast = evaluated.forecast
      ∧ (∀ h, h ≠ g → t.threat h = s.threat h)
      ∧ (old.HandedOff new → ∀ i ∈ (s.group g).active.members, s.groupOf i = some g → OpeningCovered s t g i)
      ∧ (¬old.HandedOff new → t.jobs = s.jobs)
      ∧ (if new.level = old.level then t.host = s.host
         else if s.host.sending = none ∧ s.host.current = none then
           t.host = { s.host with
             sending := some (.notice (.threatChange g new.level new.sources new.deadline new.episodeStart)) }
         else if s.host.notices.length < 7 then
           t.host = { s.host with notices :=
             s.host.notices ++ [.threatChange g new.level new.sources new.deadline new.episodeStart] }
         else t.host = s.host ∧ t.counter .noticesDropped = min (s.counter .noticesDropped + 1) 65535)
      ∧ (∀ i, i < 48 → t.live i =
          if new.NoSource ∧ ¬old.NoSource ∧ i ∈ (s.group g).active.members then { s.live i with failed := false }
          else s.live i)))
  ∧ (∀ (s : State) (v1 v2 : BitVec 3) (levels : Vector Nat 4), s.phase = .running → 0 < s.due.sample → s.noApplyWaits →
    ∃ t, exec (.sampleEvent v1 v2 levels) s = .next t
      ∧ (∀ g, g < 8 → (s.threat g).HandedOff (t.threat g) → ∀ i ∈ (s.group g).active.members, s.groupOf i = some g →
          OpeningCovered s t g i)
      ∧ (∀ g, g < 8 → (t.threat g).level ≠ (s.threat g).level → s.host.notices.length + g + 2 < 7 →
          t.tells (.threatChange g (t.threat g).level (t.threat g).sources (t.threat g).deadline
            (t.threat g).episodeStart))
      ∧ (∀ i, i < 48 →
          (let ended : Nat → Prop := fun g =>
             (t.threat g).NoSource ∧ ¬(s.threat g).NoSource ∧ i ∈ (s.group g).active.members
           (∀ g, g < 8 → ended g → t.live i = { s.live i with failed := false })
            ∧ ((∀ g, g < 8 → ¬ended g) → t.live i = s.live i))))

/-! ## Jobs -/

/-- A coverage check that finds no job creates a close job with the threat's rank and deadline, unless the opening is
disabled, held, failed, closed or not threatened (R52, R54). -/
def Obligations.CoverageCreatesCloseJob : Prop :=
  ∀ (s : State) (i : Nat), s.job? i = none →
    s.coverageCore i =
      match s.threatOf i with
      | none => s
      | some (rank, deadline) =>
        if (s.cfg i).enabled = true ∧ s.isHeld i = false ∧ (s.live i).failed = false ∧ s.closed i = false then
          { s with
            walkDue := true
            jobs := insertJob
              { opening := i, target := 0, rank := rank, deadline := deadline, estimate := s.runEstimate i 0
                state := .queued, retries := 0, missed := false, startedAt := none, tag := none, cause := none }
              s.jobs }
        else s

/-- A coverage check escalates a close job (R55): the lower rank, the earlier deadline, the state kept, and of an
after-stop CANCELLED or HALTED it makes REQUEUE_CLOSE; the walk runs for a job in QUEUED, whether or not its rank or
deadline changes (R55; walkDue holds the trigger to the end of the event, log 34). A coverage check converts a job with a
target above 0 by its state (R56): back to QUEUED, with the walk run, while it has not been sent, else to STOPPING with a halt owed, which waits or is in flight or,
with no room in the queue, is pending (R121; newHalts holds the halts that became pending in the present event, log 23).
-/
def Obligations.CoverageEscalatesAndConverts : Prop :=
  (∀ (s : State) (i : Nat) (j : Job) (rank : Rank) (deadline : Nat), s.job? i = some j → j.target = 0 →
    (s.cfg i).enabled = true → s.isHeld i = false → (s.live i).failed = false → s.threatOf i = some (rank, deadline) →
    (s.coverageCore i).job? i = some { j with
        rank := if j.rank.code ≤ rank.code then j.rank else rank
        deadline := min j.deadline deadline
        state := match j.state with
          | .stopping .failedTimeout => .stopping .failedTimeout
          | .stopping _ => .stopping .requeueClose
          | x => x }
      ∧ (j.state = .queued → (s.coverageCore i).walkDue = true)
      ∧ ∀ k, k ≠ i → (s.coverageCore i).job? k = s.job? k)
  ∧ (∀ (s : State) (i : Nat) (j : Job) (rank : Rank) (deadline : Nat), QueueBounded s → s.job? i = some j →
    0 < j.target →
    (s.cfg i).enabled = true → s.isHeld i = false → (s.live i).failed = false → s.threatOf i = some (rank, deadline) →
    (s.coverageCore i).job? i = some { j with
        target := 0, rank := rank, deadline := deadline, retries := 0, missed := false, estimate := s.runEstimate i 0
        state := match j.state with
          | .queued => .queued
          | .retryWait _ => .queued
          | .announcing => .queued
          | .dispatching => if s.driveWaits i then .queued else .stopping .requeueClose
          | .running => .stopping .requeueClose
          | .stopping .failedTimeout => .stopping .failedTimeout
          | .stopping _ => .stopping .requeueClose }
      ∧ (∀ j', (s.coverageCore i).job? i = some j' → j'.state = .queued → (s.coverageCore i).walkDue = true)
      ∧ (j.state = .dispatching ∨ j.state = .running → (s.coverageCore i).driveWaits i = false)
      ∧ (j.state = .running ∨ j.state = .dispatching ∧ s.driveWaits i = false →
          (s.coverageCore i).haltOwed i ∨ i ∈ (s.coverageCore i).line.newHalts)
      ∧ ∀ k, k ≠ i → (s.coverageCore i).job? k = s.job? k)

/-- The job queue stays in the order of R51, one job per opening, whatever command a step runs. -/
def Obligations.JobQueueStaysOrdered : Prop :=
  ∀ s t : State, JobsOrdered s.jobs → step s = .next t → JobsOrdered t.jobs

/-- The end of an event, the walk in it, leaves every job that is not in QUEUED as it is, takes no job away and makes
none; a QUEUED job stays QUEUED or enters ANNOUNCING or DISPATCHING (R59, R60, R62). A job leaves QUEUED only when the
walk runs (R58), for a node that is PRESENT and an opening that is chain-ready and has no entry in the reservation table,
with the grant not asserted; it then holds an INRUSH-WAIT entry of its inrush current, the entries together fit Beff, and
at most 8 jobs are in ANNOUNCING and DISPATCHING (R22, R59, R60, R88). When the walk runs, the first QUEUED job that it does
not pass over stops it, with nothing started, at the cap, at the budget or, when it needs no warning, at a full line request
queue; else that job is started, with its entry and its warning (R60, R95) or with its DRIVE owed, or it is converted when
its DRIVE would open its sash against a threat (R62). The state `met` is the one the walk meets, after the arbiter and the
report of room (log 9). -/
def Obligations.WalkMovesOnlyQueuedJobs : Prop :=
  (∀ (s : State) (q : List LineRequest), JobsOrdered s.jobs →
    (∀ j ∈ s.jobs, j.state ≠ .queued → j ∈ (s.finish q).jobs)
      ∧ (∀ i, ((s.finish q).job? i).isSome = (s.job? i).isSome)
      ∧ ∀ j ∈ (s.finish q).jobs, j ∈ s.jobs ∨ j.state = .queued ∨ j.state = .announcing ∨ j.state = .dispatching)
  ∧ (∀ (s : State) (q : List LineRequest), JobsOrdered s.jobs →
    (let t := s.finish q
     let met := State.reportRoom q s.arbitrate
     let chainReady : Nat → Bool := fun i => match s.groupOf i with
       | none => true
       | some g => !(s.group g).active.chained
           || ((s.group g).active.members.takeWhile (· != i)).all fun k => !(s.cfg k).enabled || s.closed k
     let eligible : Nat → Bool := fun i => (s.node i).presence == .present && chainReady i
       && s.line.handover != .granted && (s.reservation? i).isNone
     let underWay : State → Nat := fun u =>
       (u.jobs.filter fun j => j.state == .announcing || j.state == .dispatching).length
     let warned : Job → Bool := fun j => (s.cfg j.opening).reachable
       && (decide (0 < j.retries) || match (s.live j.opening).lastAnnounced with
         | none => true
         | some at' => decide (30 ≤ s.T - at'))
     let entry : Nat → Reservation := fun i => ⟨i, (s.cfg i).inrush, .inrushWait, false⟩
     let started : Job → Prop := fun j => j.state = .announcing ∨ j.state = .dispatching
     (∀ j ∈ s.jobs, j.state = .queued → ∀ j' ∈ t.jobs, j'.opening = j.opening → started j' →
        met.walkDue = true ∧ s.supply.cutoff = false ∧ eligible j.opening = true
          ∧ t.reservation? j.opening = some (entry j.opening) ∧ reservedSum t.reserv ≤ s.beff ∧ underWay t ≤ 8)
      ∧ (met.walkDue = false ∨ s.supply.cutoff = true → t.jobs = s.jobs ∧ t.reserv = s.reserv)
      ∧ (met.walkDue = true → s.supply.cutoff = false →
        match s.jobs.filter (fun j => j.state == .queued && eligible j.opening) with
        | [] => t.jobs = s.jobs ∧ t.reserv = s.reserv
        | j :: _ =>
          let i := j.opening
          if 8 ≤ underWay s ∨ s.beff < reservedSum s.reserv + (s.cfg i).inrush
              ∨ warned j = false ∧ 16 ≤ met.line.queue.length then
            t.jobs = s.jobs ∧ t.reserv = s.reserv ∧ t.warnings = s.warnings
          else if warned j = true then
            t.job? i = some { j with state := .announcing } ∧ t.reservation? i = some (entry i)
              ∧ ∃ w ∈ t.warnings, w.opening = i ∧ (∀ z, (s.cfg i).zone = some z → w.zone = z)
                ∧ w.endsAt = s.tenths + 10 * s.site.warningInterval + 1
          else match s.threatOf i, s.moreOpen i j.target with
            | some (rank, deadline), true =>
              ∃ j', t.job? i = some j'
                ∧ j' = { j with
                    target := 0, rank := rank, deadline := deadline, retries := 0, missed := false
                    estimate := s.runEstimate i 0, state := j'.state }
                ∧ (j'.state = .queued ∧ t.reservation? i = none
                    ∨ j'.state = .dispatching ∧ t.reservation? i = some (entry i))
            | _, _ =>
              t.job? i = some { j with state := .dispatching } ∧ t.reservation? i = some (entry i)
                ∧ (i ∉ s.line.pendingHalts → i ∉ s.line.newHalts → t.driveOwed i j.target))))

/-- At most 8 jobs are in ANNOUNCING and DISPATCHING (R59, R95), whatever command a step runs. -/
def Obligations.StartsStayCapped : Prop :=
  ∀ s t : State, JobsOrdered s.jobs → StartsCapped s → step s = .next t → StartsCapped t

/-- RETRY_WAIT_END (R66): a job whose retry at has come goes to QUEUED with the rest of it kept, and the walk is
triggered. HOLD_EXPIRY (R77): a hold whose time has come leaves the held list, and a coverage check runs for its
opening. -/
def Obligations.WaitsAndHoldsEnd : Prop :=
  (∀ (s : State) (j : Job) (at' : Nat), s.phase = .running → 0 < s.due.supervision → s.job? j.opening = some j →
    j.state = .retryWait at' → at' ≤ s.T → s.reservation? j.opening = none → s.noApplyWaits →
    exec (.retryWaitEnd j.opening) s = .next (State.finish s.line.queue
      { s with walkDue := true, jobs := insertJob { j with state := .queued } (s.otherJobs j.opening) }))
  ∧ (∀ (s : State) (i at' : Nat), s.phase = .running → 0 < s.due.supervision → s.heldUntil i = some at' → at' ≤ s.T →
    exec (.holdExpiry i) s = .next (State.finish s.line.queue
        (({ s with held := s.held.filter (fun h => h.opening != i) } : State).coverage i))
      ∧ ∀ t, exec (.holdExpiry i) s = .next t → t.heldUntil i = none ∧ t.steady = s.steady)

/-- MOTION_TIMEOUT (R67, R68): a job that has run longer than twice its estimate and 10 s goes to STOPPING with
after-stop FAILED_TIMEOUT, and a halt is owed to its node. DEADLINE_MISSED (R71): the first supervision past its
deadline marks the job, raises DEADLINE_MISSED and counts it. CANCEL and STOP of a manual job (R74, R75): before its DRIVE
is placed the job ends CANCELLED; after it CANCEL is too late, and STOP halts it with after-stop HALTED. -/
def Obligations.JobsAreStopped : Prop :=
  (∀ (s : State) (j : Job) (start : Nat), s.phase = .running → 0 < s.due.supervision → QueueBounded s →
    s.job? j.opening = some j → j.state = .running → j.startedAt = some start → 2 * j.estimate + 10 < s.T - start →
    ∃ t, exec (.motionTimeout j.opening) s = .next t
      ∧ t.job? j.opening = some { j with state := .stopping .failedTimeout }
      ∧ t.haltOwed j.opening ∧ t.driveWaits j.opening = false ∧ t.calm = s.calm)
  ∧ (∀ (s : State) (j : Job), s.phase = .running → 0 < s.due.supervision → s.job? j.opening = some j →
    j.missed = false → j.deadline < s.T →
    ∃ t, exec (.deadlineMissed j.opening) s = .next t ∧ t.job? j.opening = some { j with missed := true }
      ∧ (∀ i, i ≠ j.opening → t.job? i = s.job? i) ∧ t.alertSet .deadlineMissed = true
      ∧ t.counter .deadlinesMissed = min (s.counter .deadlinesMissed + 1) 65535
      ∧ t = { s with jobs := t.jobs, alerts := t.alerts, host := t.host, counters := t.counters })
  ∧ (∀ (s : State) (tag i : Nat) (j : Job), s.takes → i < 48 → s.job? i = some j → j.rank = .manual → s.noApplyWaits →
    (let early : Bool := match j.state with
       | .queued => true
       | .announcing => true
       | .retryWait _ => true
       | _ => false
     let ended : Instr → Request → Prop := fun command r =>
       ∃ t, exec command s = .next t ∧ t.job? i = none ∧ (t.live i).lastOutcome = .cancelled
         ∧ t.counter .jobsCancelled = min (s.counter .jobsCancelled + 1) 65535 ∧ (∀ w ∈ t.warnings, w.opening ≠ i)
         ∧ t.hasReply tag r .ok [] ∧ t.steady = s.steady
     (early = true → ended (.cancel tag i) (.cancel i) ∧ ended (.stop tag i) (.stop i))
      ∧ (early = false →
        exec (.cancel tag i) s = .next ((s.taking tag (.cancel i)).replied tag (.cancel i) .tooLate []))
      ∧ (j.state = .dispatching ∨ j.state = .running → QueueBounded s →
        ∃ t, exec (.stop tag i) s = .next t ∧ t.job? i = some { j with state := .stopping .halted } ∧ t.haltOwed i
          ∧ t.driveWaits i = false ∧ t.hasReply tag (.stop i) .ok [] ∧ t.steady = s.steady)
      ∧ (j.state.isStopping = true →
        exec (.stop tag i) s = .next ((s.taking tag (.stop i)).replied tag (.stop i) .ok []))))

/-- The outcomes of a DRIVE and of a HALT (R63, R68, R69, R88, R145): a DRIVE's success takes a DISPATCHING job to RUNNING
and its reservation to INRUSH, in STOPPING it notes the start; its failure takes the job back to QUEUED and releases the
reservation. A HALT's success takes a STOPPING job along its after-stop path; its failure asks for the halt again while
the node is PRESENT. In any other state of the job, and without one, an outcome changes nothing. A report of STOPPED at
the position of a RUNNING job (R64, R65): within the tolerance of the target the job ends DONE; elsewhere it is
obstructed, and waits for a retry while one is left, else ends FAILED_OBSTRUCTED. -/
def Obligations.JobsFollowTheirReplies : Prop :=
  (∀ (s : State) (i : Nat) (j : Job), s.job? i = some j → i < 48 → s.noApplyWaits →
    (let released := match s.reservation? i with
       | none => none
       | some r => if r.marked || r.phase.isResidual then some r else none
     let inrush := (s.reservation? i).map fun r =>
       if r.phase = .inrushWait then { r with phase := .inrush (s.tenths + (s.cfg i).inrushDuration) } else r
     let ends : JobOutcome → Counter → State → Prop := fun outcome counter t =>
       t.job? i = none ∧ (t.live i).lastOutcome = outcome
         ∧ t.counter counter = min (s.counter counter + 1) 65535 ∧ t.reservation? i = released
         ∧ (∀ w ∈ t.warnings, w.opening ≠ i) ∧ t.walkDue = true
         ∧ (s.host.notices.length < 6 → t.tells (.jobOutcome i outcome j.target j.rank j.retries j.missed j.tag j.cause))
         ∧ (outcome = .failedTimeout → (t.live i).failed = true ∧ t.alertSet .jobFailed = true)
     (j.state = .dispatching →
        (let t := s.driveOutcome i true
         t.job? i = some { j with state := .running, startedAt := some s.T } ∧ t.reservation? i = inrush
           ∧ (∀ k, k ≠ i → t.job? k = s.job? k) ∧ t.calm = s.calm)
         ∧ (let t := s.driveOutcome i false
            t.job? i = some { j with state := .queued } ∧ t.reservation? i = released ∧ t.walkDue = true
              ∧ (∀ k, k ≠ i → t.job? k = s.job? k) ∧ t.calm = s.calm)
         ∧ ∀ ok, s.haltOutcome i ok = s)
      ∧ (∀ after, j.state = .stopping after →
        (let t := s.driveOutcome i true
         t.job? i = some { j with startedAt := some s.T } ∧ t.reservation? i = inrush ∧ t.calm = s.calm)
         ∧ s.driveOutcome i false = s
         ∧ (match after with
            | .requeueClose =>
              (s.haltOutcome i true).job? i
                  = some { j with
                      state := .queued, target := 0, startedAt := none, estimate := s.runEstimate i 0 }
                ∧ (s.haltOutcome i true).reservation? i = released ∧ (s.haltOutcome i true).walkDue = true
            | .cancelled => ends .cancelled .jobsCancelled (s.haltOutcome i true)
            | .halted => ends .halted .jobsCancelled (s.haltOutcome i true)
            | .failedTimeout => ends .failedTimeout .jobsFailed (s.haltOutcome i true))
         ∧ ((s.node i).presence = .present →
            ((s.haltOutcome i false).haltOwed i ∨ i ∈ (s.haltOutcome i false).line.newHalts)
              ∧ (s.haltOutcome i false).jobs = s.jobs)
         ∧ ((s.node i).presence ≠ .present → s.haltOutcome i false = s))
      ∧ (j.state.isStopping = false → j.state ≠ .dispatching → ∀ ok, s.driveOutcome i ok = s ∧ s.haltOutcome i ok = s)))
  ∧ (∀ (s : State) (i : Nat), s.job? i = none → ∀ ok, s.driveOutcome i ok = s ∧ s.haltOutcome i ok = s)
  ∧ (∀ (s : State) (i p : Nat) (j : Job), s.job? i = some j → j.state = .running → s.noApplyWaits → i < 48 →
    (s.live i).position = some p →
    (let arrived : Bool := (p - j.target) + (j.target - p) ≤ (s.cfg i).tolerance
     let released := match s.reservation? i with
       | none => none
       | some r => if r.marked || r.phase.isResidual then some r else none
     let t := s.statusReport i
     ((s.live i).motion ≠ .stopped → t = s)
      ∧ ((s.live i).motion = .stopped → arrived = true → t.job? i = none ∧ (t.live i).lastOutcome = .done
        ∧ (t.live i).failed = false ∧ t.counter .jobsDone = min (s.counter .jobsDone + 1) 65535)
      ∧ ((s.live i).motion = .stopped → arrived = false → t.alertSet .obstruction = true
        ∧ t.counter .obstructions = min (s.counter .obstructions + 1) 65535
        ∧ (if j.retries < s.site.retryLimit then
            t.job? i = some { j with
              state := .retryWait (s.T + s.site.retryDelay), retries := j.retries + 1, startedAt := none
              cause := some (if (s.live i).faults = noFaults then { noFaults with stall := true }
                else (s.live i).faults) }
          else t.job? i = none ∧ (t.live i).lastOutcome = .failedObstructed ∧ (t.live i).failed = true
            ∧ t.alertSet .jobFailed = true))
      ∧ ((s.live i).motion = .stopped → t.walkDue = true ∧ t.reservation? i = released)))

/-- SUPERVISION_EVENT (R66, R67, R77) leaves nothing of what was due: no hold that has expired, no RETRY_WAIT past its
retry at, no RUNNING job past its motion timeout. -/
def Obligations.SupervisionLeavesNothingDue : Prop :=
  ∀ s : State, s.phase = .running → 0 < s.due.supervision → JobsOrdered s.jobs → (s.held.map (·.opening)).Nodup →
    ∃ t, exec .supervisionEvent s = .next t
      ∧ t.held = s.held.filter (fun h => decide (s.T < h.expires))
      ∧ (∀ j ∈ t.jobs, ∀ a, j.state = .retryWait a → s.T < a)
      ∧ (∀ j ∈ t.jobs, ∀ b, j.state = .running → j.startedAt = some b → s.T - b ≤ 2 * j.estimate + 10)
      ∧ t.steady = s.takeSupervision.steady

/-! ## Warnings and the desk panel -/

/-- WARNING_END (R61, R96): a warning whose time has come ends; its job goes to DISPATCHING with a DRIVE owed and last
announced at written, or back to QUEUED with its reservation released and last announced at unchanged when the node is not
PRESENT or the line request queue holds 16 requests. The walk of the event may start again the job that a full queue sent
back, but not below its inrush current. A job that would open its sash against a threat is converted at this dispatch
(R62): a close job with the threat's rank and deadline, its reservation released, which the walk of the event may start;
that last announced at is written there too is the model's choice (log 33, DEDUCED). -/
def Obligations.WarningEnds : Prop :=
  ∀ (s : State) (j : Job) (w : WarnEntry), s.phase = .running → 0 < s.due.warnings → s.job? j.opening = some j →
    j.state = .announcing → w ∈ s.warnings → w.opening = j.opening → w.endsAt ≤ s.tenths → s.noApplyWaits →
    JobsOrdered s.jobs → j.opening < 48 → j.opening ∉ s.line.pendingHalts → j.opening ∉ s.line.newHalts →
    ∃ t, exec (.warningEnd j.opening) s = .next t ∧ t.steady = s.steady
      ∧ (let i := j.opening
         let gone := ∀ x ∈ t.warnings, x.opening ≠ i
         let annulled := s.beff < (s.cfg i).inrush
         if (s.node i).presence ≠ .present then
           gone ∧ t.job? i = some { j with state := .queued } ∧ t.lives = s.lives ∧ t.reservation? i = s.entryReleased i
         else if 16 ≤ s.line.queue.length then
           t.lives = s.lives ∧ (∀ x ∈ t.warnings, x.opening = i → s.tenths < x.endsAt)
             ∧ (∃ j', t.job? i = some j' ∧ (j'.state = .queued ∨ j'.state = .announcing ∨ j'.state = .dispatching)
               ∧ (j' = { j with state := j'.state }
                 ∨ (s.threatOf i).isSome = true ∧ s.moreOpen i j.target = true ∧ j'.target = 0))
             ∧ (annulled → gone ∧ t.job? i = some { j with state := .queued } ∧ t.reservation? i = s.entryReleased i)
         else match s.threatOf i, s.moreOpen i j.target with
           | some (rank, deadline), true =>
             gone ∧ (t.live i).lastAnnounced = some s.T
               ∧ (∃ j', t.job? i = some j' ∧ (j'.state = .queued ∨ j'.state = .dispatching)
                 ∧ j' = { j with
                     target := 0, rank := rank, deadline := deadline, retries := 0, missed := false
                     estimate := s.runEstimate i 0, state := j'.state }
                 ∧ (annulled → j'.state = .queued ∧ t.reservation? i = s.entryReleased i))
           | _, _ =>
             gone ∧ t.job? i = some { j with state := .dispatching } ∧ t.driveOwed i j.target
               ∧ (t.live i).lastAnnounced = some s.T ∧ t.reservation? i = s.reservation? i)

/-- The cadences at a 100 ms event (R99): WARNING_OUTPUTS_100MS_EVENT beats every pulsed zone that sounds.
CADENCE_TURNOVER is the one beat of one zone at which its phase turns over, taken out of the 100 ms event next in turn,
which then does not beat that zone; before that beat it does nothing: that it acts so, and only at that beat, is the
model's choice (log 7, DEDUCED). Between events a zone sounds exactly while it has a holder (R98), and a silent zone has
its phase OFF and its count at 0, whatever command a step runs. -/
def Obligations.CadenceBeats : Prop :=
  (∀ (s : State) (z : Nat), s.phase = .running → 0 < s.due.warnings → z < 4 →
    (let beat : Zone → Zone := fun x =>
       if x.count < 4 then { x with count := x.count + 1 } else { x with phaseOn := !x.phaseOn, count := 0 }
     let beats : Bool := (s.zone z).sounding && s.site.cadence z == .pulsed && !s.due.turned.contains z
     (s.walkDue = false → s.line.queue.length < 16 → (∀ w ∈ s.warnings, s.tenths < w.endsAt) →
        ∃ t, exec .warningOutputs100msEvent s = .next t
          ∧ t.zone z = (if beats then beat (s.zone z) else s.zone z) ∧ t.warnings = s.warnings
          ∧ t.calm = s.takeWarnings.calm)
      ∧ ((s.zone z).count < 4 → exec (.cadenceTurnover z) s = .next s)
      ∧ ((s.zone z).count = 4 →
        ∃ t, exec (.cadenceTurnover z) s = .next t
          ∧ t.zone z = (if beats then { s.zone z with phaseOn := !(s.zone z).phaseOn, count := 0 } else s.zone z)
          ∧ t.due = (if beats then { s.due with turned := s.due.turned ++ [z] } else s.due)
          ∧ (∀ y, y ≠ z → t.zone y = s.zone y) ∧ t = { s with zones := t.zones, due := t.due })))
  ∧ (∀ s t : State, JobsOrdered s.jobs → ZonesFollowHolders s → step s = .next t → ZonesFollowHolders t)

/-- PANEL_FRAME (R101 to R105): each lamp takes the highest of the states assigned to it, OFF when there is none; the
frame changes nothing else. Its scan begins at PSCAN0, and one scan line is active at a time, with the lamps of its row on
the lamp lines. -/
def Obligations.PanelFrameShowsTheHighest : Prop :=
  ∀ s : State, s.phase = .running →
    ∃ t, exec .panelFrame s = .next t ∧ t = { s with panel := t.panel }
      ∧ t.panel.slowLit = decide (s.divider % 32768 < 16384) ∧ t.panel.fastLit = decide (s.divider % 8192 < 4096)
      ∧ t.outputs.pscan = [true, false, false, false, false, false, false, false]
      ∧ t.outputs.plamp = [t.panel.lit 0, t.panel.lit 1, t.panel.lit 2, t.panel.lit 3, t.panel.lit 4, t.panel.lit 5,
          t.panel.lit 6, t.panel.lit 7]
      ∧ (∀ k l : Nat, s.outputs.pscan[k]? = some true → s.outputs.pscan[l]? = some true → k = l)
      ∧ ∀ (n : Nat) (hn : n < 64),
        (let openings := ((List.range 48).filter fun i => (s.cfg i).enabled && (s.cfg i).lamp == some n).map fun i =>
           if (s.live i).failed || s.isHeld i || (s.node i).presence != .present || (s.live i).lastOutcome.isFailure
             then LampState.fast
           else if (s.job? i).isSome then LampState.slow
           else if s.closed i then LampState.off else LampState.on
         let summaries :=
           (if s.site.rainLamp = some n ∧ ((List.range 8).any fun g => (s.threat g).rain.isSome) = true then [LampState.on] else [])
             ++ (if s.site.windLamp = some n ∧ ((List.range 8).any fun g => (s.threat g).wind.isSome) = true then [LampState.on] else [])
             ++ (if s.site.faultLamp = some n
                   ∧ ((List.range 48).any fun i => (s.cfg i).enabled && (s.node i).presence != .present) = true then [LampState.fast]
                 else [])
             ++ (if s.site.supplyLamp = some n then
                   [if s.supply.cutoff then LampState.fast else if s.beff < s.site.budget then .slow else .off] else [])
         (∀ x ∈ openings ++ summaries, x.code ≤ t.panel.lamps[n].code)
           ∧ (t.panel.lamps[n] = .off ∨ t.panel.lamps[n] ∈ openings ++ summaries))

/-! ## Nodes -/

/-- NODE_SUPERVISOR_100MS_EVENT and POLL_DUE (R123, R139): a node whose due time has come has its POLL or IDENT waiting or
in flight and falls due an interval from now, when the class and the queue have room for all that are owed, or for the
first in the order of due times when it is the first; otherwise it is served so or stays owed, its due time unchanged. A
node that is neither due nor owed, and the node of a disabled opening, stays as it is; with no node due or owed both
commands end with nothing placed. A failed attempt for a node (R136, R137, R138, R141), here REPLY_TIMEOUT of a POLL: with
counting paused nothing of the node moves; in HUNT nothing; from PROBATION it goes back to HUNT; in PRESENT the failure
count rises, and the third loses the node. The loss (R146, R147, R89, R90): HUNT with its position stale, NODE_LOST, no
DRIVE, HALT or pending halt left for it, and the job and its entry dealt with by the job's state (LostJob): the entry
RESIDUAL for a job in RUNNING or STOPPING, which ends or returns to QUEUED as a close job; released for one in DISPATCHING,
which returns to QUEUED; as it was for any other. What becomes
of the job and its entry is said where no group waits for an apply (R19), since an apply in the same event may act on them,
and at REPLY_TIMEOUT where the job queue is in its order, which every step keeps (JobQueueStaysOrdered). The walk runs for
a job that returns to QUEUED (R58). -/
def Obligations.NodesAreServedAndLost : Prop :=
  (∀ (s : State) (i : Nat), s.phase = .running → 0 < s.due.nodes → i < 48 → (s.cfg i).enabled = true →
    (s.node i).dueAt ≤ s.tenths →
    (let served : State → Prop := fun t =>
       (t.node i).owed = false ∧ (t.node i).dueAt = s.tenths + s.pollInterval i ∧ t.searchOwed (s.searchRequest i)
     let waits : State → Prop := fun t => (t.node i).owed = true ∧ (t.node i).dueAt = (s.node i).dueAt
     let due := (List.range 48).filter fun k =>
       (s.cfg k).enabled && ((s.node k).owed || decide ((s.node k).dueAt ≤ s.tenths))
     let owed := (List.range 48).filter fun k => (s.cfg k).enabled && ((s.node k).owed || k == i)
     let room : List Nat → Prop := fun l =>
       searchCount s.line.queue + l.length ≤ 4 ∧ s.line.queue.length + l.length ≤ 16
         ∨ searchCount s.line.queue < 4 ∧ s.line.queue.length < 16 ∧ ∀ k ∈ l, k ≠ i → s.dueBefore i k = true
     (∃ t, exec .nodeSupervisor100msEvent s = .next t ∧ t.calm = s.takeNodes.calm
         ∧ (served t ∨ waits t) ∧ (room due → served t) ∧ ∀ k, k < 48 → k ∉ due → t.node k = s.node k)
       ∧ ∃ t, exec (.pollDue i) s = .next t ∧ t.calm = s.calm
         ∧ (served t ∨ waits t) ∧ (room owed → served t) ∧ ∀ k, k < 48 → k ∉ owed → t.node k = s.node k))
  ∧ (∀ s : State, s.phase = .running → 0 < s.due.nodes →
    (∀ k, k < 48 → (s.cfg k).enabled = true → (s.node k).owed = false ∧ s.tenths < (s.node k).dueAt) →
    exec .nodeSupervisor100msEvent s = .next (State.finish s.line.queue s.takeNodes)
      ∧ ∀ i, i < 48 → exec (.pollDue i) s = .next (State.finish s.line.queue s))
  ∧ (∀ (s : State) (f : Flight) (i : Nat), s.phase = .running → s.line.flight = some f →
    f.request = .poll (s.cfg i).address i → f.stage = .window → f.detached = false → s.line.replyTimer.isSome = true →
    i < 48 →
    ∃ t, exec .replyTimeout s = .next t
      ∧ (if s.countingPaused then (t.node i).standing = (s.node i).standing ∧ (t.live i).stale = (s.live i).stale
         else match (s.node i).presence with
          | .hunt => (t.node i).standing = (s.node i).standing ∧ (t.live i).stale = (s.live i).stale
          | .probation => (t.node i).standing = (.hunt, 0, 0) ∧ (t.live i).stale = true
              ∧ (t.live i).position = (s.live i).position
          | .present =>
            if (s.node i).failure < 2 then (t.node i).standing = (.present, (s.node i).success, (s.node i).failure + 1)
            else (t.node i).standing = (.hunt, 0, 0) ∧ (t.live i).stale = true
              ∧ (t.live i).position = (s.live i).position ∧ (t.node i).coverageOwed = false
              ∧ t.alertSet .nodeLost = true
              ∧ (∀ r ∈ t.line.queue, r.movesOpening i = false) ∧ i ∉ t.line.pendingHalts
              ∧ (s.noApplyWaits → JobsOrdered s.jobs → LostJob s t i))
      ∧ ∀ k, k ≠ i → (t.node k).standing = (s.node k).standing)
  ∧ (∀ (s : State) (i : Nat), i < 48 → s.noApplyWaits →
    (let t := s.loseNode i
     t.node i = { s.node i with
         presence := .hunt, success := 0, failure := 0, coverageOwed := false, owed := false, dueAt := s.tenths }
      ∧ (t.live i).stale = true ∧ (t.live i).position = (s.live i).position ∧ t.alertSet .nodeLost = true
      ∧ (∀ r ∈ t.line.queue, r.movesOpening i = false) ∧ i ∉ t.line.pendingHalts
      ∧ (∀ r ∈ s.line.queue, r.isSearch = true → r ∈ t.line.queue)
      ∧ LostJob s t i
      ∧ (∀ j, t.job? i = some j → j.state = .queued → s.job? i = some j ∨ t.walkDue = true)
      ∧ t.steady = s.steady))

/-! ## The actuator line -/

/-- The line request queue keeps its bounds, with no two POLL and no two IDENT for one node in it (R119, R123), whatever
command a step runs. -/
def Obligations.LineQueueStaysBounded : Prop :=
  ∀ s t : State, QueueBounded s → step s = .next t → QueueBounded t

/-- At most 8 DRIVE wait, and no two DRIVE, no two HALT and no DRIVE beside a HALT for one opening (R119), because every
waiting DRIVE belongs to a job in DISPATCHING and every HALT to a job in STOPPING (R120, R121, R122): the invariant gives
the bounds, and every step keeps it, whatever command it runs. -/
def Obligations.MotionRequestsStayWithTheirJobs : Prop :=
  (∀ s : State, MotionRequestsFollowJobs s → (s.line.queue.filter (·.isDrive)).length ≤ 8
    ∧ ∀ i, (s.line.queue.filter (·.movesOpening i)).length ≤ 1)
  ∧ ∀ s t : State, MotionRequestsFollowJobs s → step s = .next t → MotionRequestsFollowJobs t

/-- ARBITER_START (R112, R124): with the line free the oldest request of the highest class that waits takes the next
sequence and its first attempt begins. -/
def Obligations.ArbiterStartsHighestClass : Prop :=
  ∀ (s : State) (r : LineRequest), s.phase = .running → s.line.flight = none → s.line.quiet = false →
    (s.line.handover = .line ∨ s.line.handover = .deferred) →
    (match s.line.queue.filter (fun x => x.isHalt || x == .haltAll) with
      | h :: _ => some h
      | [] => match s.line.queue.filter (·.isDrive) with
        | d :: _ => some d
        | [] => s.line.queue.head?) = some r →
    ∃ t, exec .arbiterStart s = .next t
      ∧ t.line.flight = some { request := r, seq := s.line.seq, attempt := 1, resends := 0, stage := .sending
                               detached := false }
      ∧ t.line.seq = (s.line.seq + 1) % 256 ∧ t.calm = s.calm

/-- While the grant is asserted or its guard runs no request is in flight (R128, R130), whatever command a step runs. -/
def Obligations.GrantedLineStaysFree : Prop :=
  ∀ s t : State, GrantedLineFree s → step s = .next t → GrantedLineFree t

/-- REQUEST_SENT, RESEND_DELAY_END and QUIET_WAIT_END (R113, R115, R116): the reply window opens with the timeout in
force; a request that met a WAIT is sent again; the next attempt begins with the resend count at 0. QUIET_WAIT_END with no
request kept in flight (R116, R124): the line falls free, and in LINE and DEFERRED the arbiter starts the oldest request of
the highest class that waits; in the other handover states it starts none.
REPLY_CHARACTER_RECEIVED (R114): a sound character in its place is stored, and the reply timer no longer applies. -/
def Obligations.TransactionMovesOn : Prop :=
  (∀ (s : State) (f : Flight), s.phase = .running → s.line.flight = some f →
    (f.stage = .sending → f.request ≠ .haltAll →
        exec .requestSent s = .next { s with line := { s.line with
          flight := some { f with stage := .window }, replyBuf := [], replyTimer := some s.site.replyTimeout } })
      ∧ (f.stage = .resendDelay →
        exec .resendDelayEnd s = .next { s with line := { s.line with flight := some { f with stage := .sending } } })
      ∧ (f.stage = .nextAttempt → s.line.quiet = true →
        ∃ t, exec .quietWaitEnd s = .next t
          ∧ t.line.flight = some { f with attempt := f.attempt + 1, resends := 0, stage := .sending }
          ∧ t.calm = { s with line := { s.line with quiet := false } }.calm))
  ∧ (∀ s : State, s.phase = .running → s.line.flight = none → s.line.quiet = true →
    ∃ t, exec .quietWaitEnd s = .next t ∧ t.calm = { s with line := { s.line with quiet := false } }.calm
      ∧ (if s.line.handover = .line ∨ s.line.handover = .deferred then
          ∀ r, (match s.line.queue.filter (fun x => x.isHalt || x == .haltAll) with
              | h :: _ => some h
              | [] => match s.line.queue.filter (·.isDrive) with
                | d :: _ => some d
                | [] => s.line.queue.head?) = some r →
            t.line.flight = some { request := r, seq := s.line.seq, attempt := 1, resends := 0, stage := .sending
                                   detached := false }
              ∧ t.line.seq = (s.line.seq + 1) % 256
        else t.line.flight = none ∧ t.line.seq = s.line.seq))
  ∧ (∀ (s : State) (f : Flight) (c : LineChar), s.phase = .running → s.line.flight = some f → f.stage = .window →
    parityFault c = false → c.stop = true → c.mark = decide (s.line.replyBuf = []) → s.line.replyBuf.length < 12 →
    replyIsComplete (s.line.replyBuf ++ [(c.mark, c.value)]) = false →
    ∃ t, exec (.replyCharacterReceived c) s = .next t
      ∧ t.line.replyBuf = s.line.replyBuf ++ [(c.mark, c.value)] ∧ t.line.replyTimer = none ∧ t.line.flight = some f
      ∧ t.calm = { s with line := t.line }.calm)

/-- A failed attempt (R113, R114, R116, R118): REPLY_TIMEOUT before the reply begins; REPLY_GAP_TIMEOUT inside it;
REPLY_CHARACTER_FAULT of a character with odd parity, a low stop bit or a misplaced address mark, or of a 13th character;
REPLY_COMPLETE of a reply whose check differs, whose header, kind or sequence does not match, or whose data is not valid,
tested in this order. It is counted under its kind and captured under its node address with the characters stored, the
buffer empties and a quiet wait begins. That the character which fails the attempt is not among those stored is the
model's choice (log 14, DEDUCED), and so is the kind that a character gets which shows two of the conditions at once: here
the first of them in the order of R114's table (log 46, DESIGN CHOICE). -/
def Obligations.AttemptFails : Prop :=
  ∀ (s : State) (f : Flight) (c : LineChar) (header kind seq check : Byte) (data : List Byte), s.phase = .running →
    s.line.flight = some f → f.stage = .window → f.request.address < 63 →
    (let failed : Instr → FailureKind → List (Bool × Byte) → Prop := fun command kind stored =>
       ∃ t, exec command s = .next t ∧ t.line.quiet = true ∧ t.line.replyBuf = [] ∧ t.line.replyTimer = none
         ∧ t.captureOf f.request.address = some ⟨kind, s.T, stored.length, stored.take 4⟩
         ∧ t.counter kind.counter = min (s.counter kind.counter + 1) 65535 ∧ t.steady = s.steady
     let values := kind :: seq :: data ++ [check]
     let reply : Instr := .replyComplete (soundChar true header :: values.map (soundChar false))
     let stored : List (Bool × Byte) := (true, header) :: values.map fun v => (false, v)
     let whole : Prop :=
       kind = 144#8 ∧ data.length = 5 ∨ kind = 165#8 ∧ data.length = 0 ∨ kind = 195#8 ∧ data.length = 2
     let allowed : Bool := kind == 165#8 || (match f.request with | .ident _ _ => kind == 195#8 | _ => kind == 144#8)
     let matched : Prop := header.toNat = 128 + f.request.address ∧ allowed = true ∧ seq.toNat = f.seq
     let sound : Prop :=
       (kind = 144#8 → (data[2]?.getD 0#8).toNat ≤ 2)
         ∧ (kind = 195#8 → 16 ≤ (data[0]?.getD 0#8).toNat * 256 + (data[1]?.getD 0#8).toNat)
     (s.line.replyTimer.isSome = true → failed .replyTimeout .timeout s.line.replyBuf)
      ∧ (s.line.replyTimer = none → failed .replyGapTimeout .framing s.line.replyBuf)
      ∧ (parityFault c = true → failed (.replyCharacterFault c) .parity s.line.replyBuf)
      ∧ (parityFault c = false → c.stop = false → failed (.replyCharacterFault c) .framing s.line.replyBuf)
      ∧ (parityFault c = false → c.stop = true → c.mark ≠ decide (s.line.replyBuf = []) →
          failed (.replyCharacterFault c) .framing s.line.replyBuf)
      ∧ (parityFault c = false → c.stop = true → c.mark = false → s.line.replyBuf.length = 12 →
          failed (.replyCharacterFault c) .overrun s.line.replyBuf)
      ∧ (s.line.replyBuf = [] → whole →
          (check ≠ crc8 (kind :: seq :: data) → failed reply .check stored)
            ∧ (check = crc8 (kind :: seq :: data) → ¬matched → failed reply .mismatch stored)
            ∧ (check = crc8 (kind :: seq :: data) → matched → ¬sound → failed reply .check stored)))

/-- HALT_ALL_SENT (R85, R126): the transaction ends with the last character, and every marked entry is released, no other.
REPLY_COMPLETE with a valid STATUS to a POLL, DRIVE or HALT (R5, R110, R114, R117, R135): position, motion and faults are
written, the position is no longer stale, and the transaction ends. The presence of the node on a valid reply (R136, R137,
R138, R143): from HUNT to PROBATION, from PROBATION to PRESENT at the third, in PRESENT the failure count back to 0; a
STATUS taken in PRESENT pays the coverage check owed. REPLY_COMPLETE with a valid IDENT (R110, R135, R142): the reported
travel is written, a mismatch raises CONFIG_MISMATCH, the job's target comes down to the effective travel, and the
transaction ends. REPLY_COMPLETE with a WAIT (R115): up to three times the same attempt is sent again after its delay; the
fourth fails it WAIT_EXHAUSTED. The STATUS reaches the job as it then stands (log 41, DEDUCED): answering a DRIVE it
takes the job from DISPATCHING to RUNNING and its entry to INRUSH (R63, R88); answering a HALT it takes the job along
its after-stop path (R69); answering a POLL it is the report by which the job arrives, is obstructed or closes (R57,
R64, R65, R144). REPLY_TIMEOUT of a DRIVE or HALT (R116, R63, R68): a next attempt up to the third, whose failure
returns the job to QUEUED or asks for the halt again. The premise on the sequence holds of every request that has
begun (R112). That REPLY_COMPLETE delivers the characters still missing is the model's choice (log 39). -/
def Obligations.RepliesAreTakenAndHaltAllEnds : Prop :=
  (∀ (s : State) (f : Flight), s.phase = .running → s.line.flight = some f → f.request = .haltAll → f.stage = .sending →
    (f.seq + 1) % 256 = s.line.seq →
    ∃ t, exec .haltAllSent s = .next t ∧ (∀ r ∈ t.reserv, r.marked = false)
      ∧ (∀ r ∈ s.reserv, r.marked = false → r ∈ t.reserv) ∧ t.line.flight ≠ some f ∧ t.steady = s.steady)
  ∧ (∀ (s : State) (f : Flight) (i position motion faults current : Nat), s.phase = .running → s.line.flight = some f →
    (f.request = .poll (s.cfg i).address i ∨ f.request = .halt (s.cfg i).address i
      ∨ ∃ target, f.request = .drive (s.cfg i).address i target) →
    f.stage = .window → f.detached = false → f.seq < 256 → (f.seq + 1) % 256 = s.line.seq → s.line.replyBuf = [] →
    i < 48 → (s.cfg i).address < 63 → position < 4096 → motion < 3 → faults < 16 → current < 256 →
    ∃ t, exec (.replyComplete (replyChars (s.cfg i).address (statusCovered f.seq position motion faults current))) s
        = .next t
      ∧ (t.live i).position = some position ∧ (t.live i).stale = false
      ∧ (t.live i).motion = (if motion = 0 then .stopped else if motion = 1 then .opening else .closing)
      ∧ (t.live i).faults = ⟨faults.testBit 0, faults.testBit 1, faults.testBit 2, faults.testBit 3⟩
      ∧ (t.node i).lastCurrent = some current
      ∧ (t.node i).standing = (match (s.node i).presence with
          | .hunt => (.probation, 0, 0)
          | .probation => if 2 ≤ (s.node i).success then (.present, 0, 0)
              else (.probation, (s.node i).success + 1, (s.node i).failure)
          | .present => (.present, (s.node i).success, 0))
      ∧ ((s.node i).presence = .present → (t.node i).coverageOwed = false)
      ∧ ((s.node i).presence = .probation → 2 ≤ (s.node i).success → (t.node i).coverageOwed = true)
      ∧ (∀ k, k ≠ i → (t.live k).position = (s.live k).position ∧ (t.node k).standing = (s.node k).standing)
      ∧ t.line.flight ≠ some f
      ∧ t.steady = { s with freeUses := s.freeUses + 1 }.steady)
  ∧ (∀ (s : State) (f : Flight) (i travel : Nat), s.phase = .running → s.line.flight = some f →
    f.request = .ident (s.cfg i).address i → f.stage = .window → f.detached = false → f.seq < 256 →
    (f.seq + 1) % 256 = s.line.seq → s.line.replyBuf = [] → i < 48 → (s.cfg i).address < 63 → 16 ≤ travel →
    travel < 4096 →
    ∃ t, exec (.replyComplete (replyChars (s.cfg i).address (identCovered f.seq travel))) s = .next t
      ∧ (t.live i).reportedTravel = some travel ∧ (t.live i).position = (s.live i).position
      ∧ t.effTravel i = min (s.cfg i).travel travel
      ∧ t.alertSet .configMismatch = (if travel = (s.cfg i).travel then s.alertSet .configMismatch else true)
      ∧ (∀ j, s.job? i = some j → ∃ j', t.job? i = some j'
          ∧ (j'.target = min j.target (min (s.cfg i).travel travel)
            ∨ j'.target = 0 ∧ (s.threatOf i).isSome = true))
      ∧ (s.job? i = none → t.job? i = none)
      ∧ (t.node i).standing = (match (s.node i).presence with
          | .hunt => (.probation, 0, 0)
          | .probation => if 2 ≤ (s.node i).success then (.present, 0, 0)
              else (.probation, (s.node i).success + 1, (s.node i).failure)
          | .present => (.present, (s.node i).success, 0))
      ∧ t.line.flight ≠ some f
      ∧ t.steady = { s with freeUses := s.freeUses + 1 }.steady)
  ∧ (∀ (s : State) (f : Flight), s.phase = .running → s.line.flight = some f → f.request ≠ .haltAll → f.stage = .window →
    f.seq < 256 → s.line.replyBuf = [] → f.request.address < 63 →
    ∃ t, exec (.replyComplete (replyChars f.request.address (waitCovered f.seq))) s = .next t
      ∧ (if f.resends < 3 then
          t.line.flight = some { f with resends := f.resends + 1, stage := .resendDelay } ∧ t.line.quiet = s.line.quiet
        else
          t.line.quiet = true
            ∧ t.counter .waitExhausted = min (s.counter .waitExhausted + 1) 65535)
      ∧ t.steady = s.steady)
  ∧ (∀ (s : State) (f : Flight) (i position motion faults current : Nat) (j : Job), s.phase = .running →
    s.line.flight = some f → f.stage = .window → f.detached = false → f.seq < 256 → (f.seq + 1) % 256 = s.line.seq →
    s.line.replyBuf = [] → i < 48 → (s.cfg i).address < 63 → position < 4096 → motion < 3 → faults < 16 → current < 256 →
    s.job? i = some j → s.noApplyWaits → (s.node i).coverageOwed = false → JobsOrdered s.jobs →
    ((∃ target, f.request = .drive (s.cfg i).address i target) ∨ f.request = .halt (s.cfg i).address i
      ∨ f.request = .poll (s.cfg i).address i) →
    ∃ t, exec (.replyComplete (replyChars (s.cfg i).address (statusCovered f.seq position motion faults current))) s
        = .next t
      ∧ (let ends : JobOutcome → Prop := fun outcome => t.job? i = none ∧ (t.live i).lastOutcome = outcome
         let closes : Bool := j.target = 0 && decide (position ≤ (s.cfg i).tolerance)
         let reported : NodeFaults := ⟨faults.testBit 0, faults.testBit 1, faults.testBit 2, faults.testBit 3⟩
         let waiting : JobState → Prop := fun x => x = .queued ∨ x = .announcing ∨ x = .dispatching
         (f.request.isDrive = true →
            (j.state = .dispatching → t.job? i = some { j with state := .running, startedAt := some s.T }
              ∧ ∀ r, s.reservation? i = some r → r.phase = .inrushWait →
                  t.reservation? i = some { r with phase := .inrush (s.tenths + (s.cfg i).inrushDuration) })
            ∧ (j.state.isStopping = true → t.job? i = some { j with startedAt := some s.T }))
          ∧ (f.request.isHalt = true → match j.state with
            | .stopping .cancelled => ends .cancelled
            | .stopping .halted => ends .halted
            | .stopping .failedTimeout => ends .failedTimeout ∧ (t.live i).failed = true
            | .stopping .requeueClose => ∃ j', t.job? i = some j' ∧ waiting j'.state
                ∧ j' = { j with
                    state := j'.state, target := 0, startedAt := none, estimate := t.runEstimate i 0 }
                ∧ (s.beff < (s.cfg i).inrush → j'.state = .queued ∧ ∀ r, s.reservation? i = some r → r.marked = false →
                    r.phase.isResidual = false → t.reservation? i = none)
            | _ => True)
          ∧ (f.request.isPoll = true → match j.state with
            | .running =>
              if motion ≠ 0 then t.job? i = some j
              else if (position - j.target) + (j.target - position) ≤ (s.cfg i).tolerance then
                ends .done ∧ (t.live i).failed = false
              else if j.retries < s.site.retryLimit then
                t.job? i = some { j with
                  state := .retryWait (s.T + s.site.retryDelay), retries := j.retries + 1, startedAt := none
                  cause := some (if reported = noFaults then { noFaults with stall := true } else reported) }
              else ends .failedObstructed ∧ (t.live i).failed = true
            | .retryWait _ =>
              if closes then ends .done else t.job? i = some { j with estimate := t.runEstimate i j.target }
            | .announcing => if closes then ends .done else t.job? i = some j
            | .queued =>
              if closes then ends .done
              else ∃ j', t.job? i = some j' ∧ waiting j'.state
                ∧ (j' = { j with state := j'.state, estimate := t.runEstimate i j.target }
                  ∨ j'.target = 0 ∧ (s.threatOf i).isSome = true)
            | .dispatching => t.job? i = some j
            | .stopping _ => t.job? i = some j)))
  ∧ (∀ (s : State) (f : Flight) (i : Nat) (j : Job), s.phase = .running → s.line.flight = some f → f.stage = .window →
    f.detached = false → s.line.replyTimer.isSome = true → i < 48 → s.job? i = some j → s.noApplyWaits → JobsOrdered s.jobs →
    ((∃ target, f.request = .drive (s.cfg i).address i target) ∨ f.request = .halt (s.cfg i).address i) →
    ∃ t, exec .replyTimeout s = .next t
      ∧ (let kept := s.countingPaused = true ∨ (s.node i).presence ≠ .present ∨ (s.node i).failure < 2
         (f.attempt < 3 → kept → t.line.flight = some { f with stage := .nextAttempt })
          ∧ (3 ≤ f.attempt → t.line.flight = none
            ∧ (f.request.isDrive = true → j.state = .dispatching → s.beff < (s.cfg i).inrush →
                t.job? i = some { j with state := .queued } ∧ t.reservation? i = s.entryReleased i)
            ∧ (f.request.isHalt = true → j.state.isStopping = true → kept → (s.node i).presence = .present →
                t.job? i = some j ∧ t.haltOwed i))))

/-- The frames of requests (R108, R109, R111): the manual's example of a check, and a POLL of node 1 with sequence 0.
The CRC-16 of host frames (R152): FFFFh, and for each byte eight shifts with 1021h; its check value. -/
def Obligations.ChecksAndFrames : Prop :=
  (crc8 [16#8, 0#8] = 110#8
    ∧ (LineRequest.poll 1 0).frame 0
      = [⟨1#8, true, false, true⟩, ⟨16#8, false, true, true⟩, ⟨0#8, false, false, true⟩, ⟨110#8, false, true, true⟩])
  ∧ (crc16 [0x31#8, 0x32#8, 0x33#8, 0x34#8, 0x35#8, 0x36#8, 0x37#8, 0x38#8, 0x39#8] = 0x29B1#16
    ∧ crc16 [] = 0xFFFF#16
    ∧ ∀ (l : List Byte) (b : Byte), crc16 (l ++ [b]) =
      (List.range 8).foldl (fun r _ => if r.getLsbD 15 then (r <<< 1) ^^^ 0x1021#16 else r <<< 1)
        (crc16 l ^^^ (b.setWidth 16 <<< 8)))

/-! ## Service handover -/

/-- SVCREQ_ASSERTED in LINE (R127, R128): deferred while WIND or RAIN is active; else the line is drained, and the grant
given at once when nothing is in flight, with SERVICE_ACTIVE. SVCREQ_RELEASED (R129): in GRANTED it withdraws the grant
into GUARD and clears SERVICE_ACTIVE; in DRAINING it returns to LINE and counting resumes; in DEFERRED it returns to LINE.
SERVICE_GRANT (R128): in DRAINING with nothing in flight the grant is given. GUARD_END (R130, R141): counting resumes and
every PRESENT node is due at once; the state becomes LINE with SVCREQ released, and with it asserted DEFERRED under WIND
or RAIN, else the drain begins again and grants at once with nothing in flight. The raising of WIND or RAIN (R128, R129)
ends a drain in DEFERRED and a grant in GUARD; its end (R131) takes DEFERRED into the drain, and no other state
anywhere. A SAMPLE_EVENT that raises a WIND or RAIN source of a group does the first, one that takes the last of them
away the second, which grants at once with nothing in flight, and any other leaves the handover as it is; that the end of
the condition is taken once, at the end of the sample event, is the model's choice (log 37, DEDUCED). -/
def Obligations.ServiceHandover : Prop :=
  (∀ s : State, s.phase = .running → s.line.handover = .line →
    ∃ t, exec .svcreqAsserted s = .next t ∧ t.svcreq = true
      ∧ (if s.windOrRain then t.line.handover = .deferred ∧ t.countingPaused = s.countingPaused
         else if s.line.flight = none then
           t.line.handover = .granted ∧ t.countingPaused = true ∧ t.alertSet .serviceActive = true
         else t.line.handover = .draining ∧ t.countingPaused = true)
      ∧ t.steady = { s with svcreq := true }.steady)
  ∧ (∀ s : State, s.phase = .running →
    (s.line.handover = .granted → ∃ t, exec .svcreqReleased s = .next t ∧ t.line.handover = .guarding
        ∧ t.alertSet .serviceActive = false ∧ t.steady = { s with svcreq := false }.steady)
      ∧ (s.line.handover = .draining → ∃ t, exec .svcreqReleased s = .next t ∧ t.line.handover = .line
        ∧ t.countingPaused = false ∧ t.alerts = s.alerts)
      ∧ (s.line.handover = .deferred → ∃ t, exec .svcreqReleased s = .next t ∧ t.line.handover = .line
        ∧ t.countingPaused = s.countingPaused ∧ t.alerts = s.alerts)
      ∧ (s.line.handover = .draining → s.line.flight = none → ∃ t, exec .serviceGrant s = .next t
        ∧ t.line.handover = .granted ∧ t.alertSet .serviceActive = true ∧ t.steady = s.steady)
      ∧ (s.line.handover = .guarding → s.line.flight = none → ∃ t, exec .guardEnd s = .next t
        ∧ (if s.svcreq = false then t.line.handover = .line ∧ t.countingPaused = false ∧ t.alerts = s.alerts
           else if s.windOrRain then t.line.handover = .deferred ∧ t.countingPaused = false ∧ t.alerts = s.alerts
           else t.line.handover = .granted ∧ t.countingPaused = true ∧ t.alertSet .serviceActive = true)
        ∧ (∀ i, i < 48 → (s.node i).presence = .present →
            (t.node i).dueAt = s.tenths
              ∨ (s.node i).owed = true ∧ (t.node i).owed = false ∧ t.searchOwed (s.searchRequest i))
        ∧ t.steady = s.steady))
  ∧ (∀ s : State,
    (s.line.handover = .draining → s.weatherRaised.line.handover = .deferred ∧ s.weatherRaised.countingPaused = false)
      ∧ (s.line.handover = .granted → s.weatherRaised.line.handover = .guarding
        ∧ s.weatherRaised.alertSet .serviceActive = false ∧ s.weatherRaised.walkDue = true)
      ∧ (s.line.handover ≠ .draining → s.line.handover ≠ .granted → s.weatherRaised = s)
      ∧ (s.line.handover = .deferred → s.weatherEnded.countingPaused = true
        ∧ s.weatherEnded.line.handover = (if s.line.flight = none then .granted else .draining)
        ∧ (s.line.flight = none → s.weatherEnded.alertSet .serviceActive = true)
        ∧ s.weatherEnded.line.queue = s.line.queue)
      ∧ (s.line.handover ≠ .deferred → s.weatherEnded = s))
  ∧ (∀ (s : State) (v1 v2 : BitVec 3) (levels : Vector Nat 4), s.phase = .running → 0 < s.due.sample →
    ∃ t, exec (.sampleEvent v1 v2 levels) s = .next t
      ∧ (let raised : Nat → Prop := fun g =>
           (s.threat g).wind = none ∧ (t.threat g).wind ≠ none ∨ (s.threat g).rain = none ∧ (t.threat g).rain ≠ none
         let ended := s.windOrRain = true ∧ t.windOrRain = false
         let stays := t.line.handover = s.line.handover ∧ t.countingPaused = s.countingPaused
           ∧ t.alertSet .serviceActive = s.alertSet .serviceActive
         (∀ g, g < 8 → raised g →
           match s.line.handover with
           | .draining => t.line.handover = .deferred ∧ t.countingPaused = false
               ∧ t.alertSet .serviceActive = s.alertSet .serviceActive
           | .granted => t.line.handover = .guarding ∧ t.countingPaused = s.countingPaused
               ∧ t.alertSet .serviceActive = false
           | .line => stays
           | .deferred => stays
           | .guarding => stays)
         ∧ (ended → s.line.handover = .deferred → (∀ g, g < 8 → ¬raised g) → t.countingPaused = true
           ∧ (if s.line.flight = none then t.line.handover = .granted ∧ t.alertSet .serviceActive = true
              else t.line.handover = .draining ∧ t.alertSet .serviceActive = s.alertSet .serviceActive))
         ∧ ((∀ g, g < 8 → ¬raised g) → ¬(ended ∧ s.line.handover = .deferred) → stays)))

/-! ## The Host Link -/

/-- The receiver (R153): HOST_BYTE_RECEIVED by the state it arrives in, short of a frame's end, and HOST_FRAME_TIMEOUT.
HOST_FRAME_COMPLETE (R154, R155): a frame of STATUS-READ is taken and answered; a frame of an unknown type is answered
UNKNOWN_TYPE, and a frame of a request type whose payload has another length than section 8.5 gives is answered BAD_LENGTH,
when no request is current; a frame of any type is lost and counted HOST_OVERRUN when one is, and a frame of any type whose
check differs is counted HOST_CRC. -/
def Obligations.ReceiverAndFrames : Prop :=
  (∀ (s : State) (b : Byte), s.phase = .running →
    (match s.host.rx with
      | .hunt => exec (.hostByteReceived b) s =
          .next (if b = 0x5B#8 then { s with host := { s.host with rx := .length } } else s)
      | .length => exec (.hostByteReceived b) s =
          .next { s with host := { s.host with
            rx := if 2 ≤ b.toNat ∧ b.toNat ≤ 250 then .body b.toNat [] else .hunt } }
      | .body n bytes => bytes.length < n + 1 → exec (.hostByteReceived b) s =
          .next { s with host := { s.host with rx := .body n (bytes ++ [b]) } })
      ∧ (s.host.rx ≠ .hunt →
        ∃ t, exec .hostFrameTimeout s = .next t ∧ t.host = { s.host with rx := .hunt }
          ∧ t.counter .hostFrameTimeout = min (s.counter .hostFrameTimeout + 1) 65535
          ∧ t = { s with host := t.host, counters := t.counters }))
  ∧ (∀ (s : State) (type tag : Nat) (payload : List Byte), s.phase = .running → s.host.rx = .hunt → 1 ≤ type →
    type ≤ 0x18 → tag < 256 → payload.length ≤ 248 → s.host.current = none →
    (if type = 0x05 then ¬(10 ≤ payload.length ∧ payload.length = 10 + (payload[9]?.getD 0#8).toNat)
      else [0, 1, 12, 2, 0, 1, 0, 45, 3, 1, 1, 1, 2, 8, 1, 1, 1, 1, 0, 2, 0, 0, 0, 0][type - 1]? ≠ some payload.length) →
    exec (.hostFrameComplete (frameBytes type tag payload)) s =
      .next { s with host := { s.host with
        current := some ⟨type, tag, payload⟩, reply := some ⟨type + 128, tag, .badLength, []⟩ }.transmit })
  ∧ (∀ (s : State) (type tag : Nat) (payload : List Byte), s.phase = .running → s.host.rx = .hunt →
    type < 256 → tag < 256 → payload.length ≤ 248 →
    (s.host.current = none → exec (.hostFrameComplete (frameBytes 0x01 tag [])) s =
        .next ((s.taking tag .statusRead).replied tag .statusRead .ok s.statusBytes))
      ∧ (type = 0 ∨ 0x19 ≤ type → s.host.current = none → exec (.hostFrameComplete (frameBytes type tag payload)) s =
        .next { s with host := { s.host with
          current := some ⟨type, tag, payload⟩
          reply := some ⟨if 128 ≤ type then 255 else type + 128, tag, .unknownType, []⟩ }.transmit })
      ∧ (s.host.current ≠ none →
        ∃ t, exec (.hostFrameComplete (frameBytes type tag payload)) s = .next t
          ∧ t.counter .hostOverrun = min (s.counter .hostOverrun + 1) 65535 ∧ t = { s with counters := t.counters })
      ∧ ∀ check : List Byte, check.length = 2 →
        check ≠ crc16Bytes (byteOf (payload.length + 2) :: byteOf type :: byteOf tag :: payload) →
        ∃ t, exec (.hostFrameComplete
            (0x5B#8 :: (byteOf (payload.length + 2) :: byteOf type :: byteOf tag :: payload ++ check))) s = .next t
          ∧ t.counter .hostCrc = min (s.counter .hostCrc + 1) 65535 ∧ t = { s with counters := t.counters })

/-- Decoding the bytes of a well-formed request gives the request back (section 8.5). -/
def Obligations.RequestsDecodeBack : Prop :=
  ∀ (r : Request) (v : Bool), r.wellFormed = true → decodeRequest v r.typeCode r.payload = .ok (withVerify v r)

/-- A request sent as a frame of bytes does what its row of the table does (R151 to R155); for STORE_LOCK, with the free
answer of the store. That a request's row does what its whole frame does (log 20), that HOST_FRAME_COMPLETE
delivers the bytes still missing (log 39), and what STORE_LOCK's answer is drawn from (log 16) are the model's choices. -/
def Obligations.FrameIsTheRequest : Prop :=
  ∀ (s : State) (c : Instr) (tag : Nat) (r : Request), c.request? = some (tag, r) → c.wellFormed = true →
    s.phase = .running → s.host.rx = .hunt → withVerify (Config.freeLockVerifies s.freeUses) r = r →
    exec (.hostFrameComplete (frameBytes r.typeCode tag r.payload)) s = exec c s

/-- RECORD_SENT (R154, R156, R173): the next record begins, the reply first; a sent reply ends the current request;
after the reply to RESTART every block is cleared but the counts and the counters. What an interrupted save or erase leaves
of the image at that reset is the model's choice (log 17, DESIGN CHOICE). -/
def Obligations.RecordSentChoosesNext : Prop :=
  ∀ s : State, s.phase = .running →
    (∀ n, s.host.sending = some (.notice n) →
        exec .recordSent s = .next { s with host :=
          match s.host.reply, s.host.notices with
          | some r, _ => { s.host with reply := none, sending := some (.reply r) }
          | none, n :: ns => { s.host with notices := ns, sending := some (.notice n) }
          | none, [] => { s.host with sending := none } })
      ∧ (∀ r, s.host.sending = some (.reply r) → s.host.reply = none → r.type ≠ 0x98 →
        exec .recordSent s = .next { s with host :=
          match s.host.notices with
          | n :: ns => { s.host with current := none, notices := ns, sending := some (.notice n) }
          | [] => { s.host with current := none, sending := none } })
      ∧ ∀ tag, s.host.sending = some (.reply ⟨0x98, tag, .ok, []⟩) →
        exec .recordSent s = .next { s.resetKeeping s.interruptedImage with
          tenths := s.tenths, counters := s.counters, cause := .restart }

/-! ## Host requests -/

/-- The reads (R6, R16, R49, R78, R149, R159 to R163): each is answered OK with its data, and changes nothing but the
Host Link. -/
def Obligations.ReadsChangeNothing : Prop :=
  ∀ (s : State) (tag n : Nat), s.takes →
    exec (.statusRead tag) s = .next ((s.taking tag .statusRead).replied tag .statusRead .ok s.statusBytes)
      ∧ exec (.siteRead tag) s = .next ((s.taking tag .siteRead).replied tag .siteRead .ok s.site.wire.bytes)
      ∧ exec (.jobsRead tag n) s = .next ((s.taking tag (.jobsRead n)).replied tag (.jobsRead n) .ok (s.jobsBytes n))
      ∧ exec (.openingRead tag n) s = .next (if n < 48
          then (s.taking tag (.openingRead n)).replied tag (.openingRead n) .ok (s.openingBytes n)
          else (s.taking tag (.openingRead n)).replied tag (.openingRead n) .noSuchOpening [])
      ∧ exec (.nodeRead tag n) s = .next (if n < 48
          then (s.taking tag (.nodeRead n)).replied tag (.nodeRead n) .ok (s.nodeBytes n)
          else (s.taking tag (.nodeRead n)).replied tag (.nodeRead n) .noSuchOpening [])
      ∧ exec (.weatherRead tag n) s = .next (if n < 3
          then (s.taking tag (.weatherRead n)).replied tag (.weatherRead n) .ok (s.weatherBytes n)
          else (s.taking tag (.weatherRead n)).replied tag (.weatherRead n) .badValue [])
      ∧ ∀ copy, exec (.groupRead tag n copy) s = .next (if 8 ≤ n
          then (s.taking tag (.groupRead n copy)).replied tag (.groupRead n copy) .noSuchGroup []
          else if 2 ≤ copy then (s.taking tag (.groupRead n copy)).replied tag (.groupRead n copy) .badValue []
          else (s.taking tag (.groupRead n copy)).replied tag (.groupRead n copy) .ok (s.groupBytes n copy))

/-- A request that is refused changes no state (R158): only the reply follows. STORE_LOCK apart, whose NO_IMAGE may
follow a failed verify (R176). -/
def Obligations.RefusalsChangeNothing : Prop :=
  ∀ (s : State) (r : Request) (tag : Nat), (∀ v, r ≠ .storeLock v) →
    (serve r tag s).code ≠ .ok → (serve r tag s).code ≠ .clamped → (serve r tag s).code ≠ .accepted →
    (serve r tag s).state = s ∧ (serve r tag s).data = []

/-- OPENING_WRITE accepted (R7, R8, R9): the clamped record is in force, failure status is OK, and a node enabled or
readdressed starts afresh in HUNT with the five live fields reset; that position stale is no there also for a node that
was in PROBATION or PRESENT (R9 over R136 and R5) is the model's choice (log 52, DESIGN CHOICE). A write that enables,
disables or readdresses the opening (R9, R125) takes its waiting POLL and IDENT out of the queue and detaches its
transaction in flight; that every other request stays, a DRIVE or HALT of the opening too, is the model's choice (log
22, DEDUCED); it is said for states in which no opening has two motion requests, a part of the invariant
MotionRequestsStayWithTheirJobs. What a detached transaction brings is not applied (R9, R117): no live field changes and
no presence count moves. -/
def Obligations.OpeningWriteTakesEffect : Prop :=
  (∀ (s : State) (tag i : Nat) (w : OpeningWire), s.takes → i < 48 → s.store.lock = false → s.store.state = .idle →
    s.job? i = none → s.reservation? i = none → 1 ≤ w.address → w.address ≤ 62 → (w.zone ≤ 3 ∨ w.zone = 255) →
    (w.lamp ≤ 63 ∨ w.lamp = 255) → (w.reachable = true → w.zone ≠ 255) →
    (w.enabled = true → ∀ k, k < 48 → k ≠ i → (s.cfg k).enabled = true → (s.cfg k).address ≠ w.address) →
    ∃ t, exec (.openingWrite tag i w) s = .next t
      ∧ t.cfg i = {
          enabled := w.enabled, reachable := w.reachable, address := w.address
          travel := max 16 (min w.travel 4095), tolerance := min w.tolerance 63, speed := max 1 (min w.speed 255)
          inrush := max 1 (min w.inrush 100), run := min (max 1 (min w.run 100)) (max 1 (min w.inrush 100))
          inrushDuration := max 1 (min w.inrushDuration 50)
          zone := if w.zone = 255 then none else some w.zone, lamp := if w.lamp = 255 then none else some w.lamp }
      ∧ (∀ k, k ≠ i → t.cfg k = s.cfg k) ∧ (t.live i).failed = false
      ∧ t.hasReply tag (.openingWrite i w) (if cfgOfWire w = t.cfg i then .ok else .clamped) []
      ∧ (if w.enabled = true ∧ ((s.cfg i).enabled = false ∨ (s.cfg i).address ≠ w.address) then
          (t.live i).position = none ∧ (t.live i).stale = false ∧ (t.live i).motion = .stopped
            ∧ (t.live i).faults = noFaults ∧ (t.live i).reportedTravel = none
            ∧ (t.node i).presence = .hunt ∧ (t.node i).success = 0 ∧ (t.node i).failure = 0
        else if w.enabled = true then t.node i = s.node i ∨ (t.node i).owed = false ∧ (s.node i).owed = true
        else (s.cfg i).enabled = true → (t.live i).position = none ∧ (t.node i).presence = .hunt)
      ∧ ((if w.enabled = true then (s.cfg i).enabled = false ∨ (s.cfg i).address ≠ w.address
          else (s.cfg i).enabled = true) →
          (∀ r ∈ t.line.queue, r.isSearch = true → r.opening? ≠ some i)
            ∧ (s.motionRequests.Nodup → ∀ r ∈ s.line.queue, r.isSearch = false ∨ r.opening? ≠ some i →
                r ∈ t.line.queue ∨ ∃ f, t.line.flight = some f ∧ f.request = r)
            ∧ ∀ f, s.line.flight = some f →
                t.line.flight = some (if f.request.opening? = some i then { f with detached := true } else f))
      ∧ t.steady = { s with cfgs := t.cfgs }.steady)
  ∧ (∀ (s : State) (f : Flight) (c : LineChar) (chars : List LineChar), s.phase = .running → s.line.flight = some f →
    f.detached = true →
    ∀ command ∈ [Instr.replyTimeout, .replyGapTimeout, .replyCharacterFault c, .replyCharacterReceived c,
        .replyComplete chars],
      ∃ t, exec command s = .next t ∧ t.lives = s.lives ∧ t.steady = { s with freeUses := t.freeUses }.steady
        ∧ ∀ k, (t.node k).standing = (s.node k).standing)

/-- GROUP_WRITE accepted (R17): the clamped record replaces the pending copy, and nothing else of the groups changes.
GROUP_APPLY accepted (R18, R19, R20): at the quiescent point the pending copy becomes the active one, unless one of its
members is active in another group; else the apply waits. Its notice APPLY-DONE, OK or CONFLICT, is placed while a slot is
free, and a coverage check runs on each new member: under a threat of the group, one that is enabled, not held, not failed
and not closed has a close job at least as urgent as the group's record. An apply that waits tells nothing. -/
def Obligations.GroupCopies : Prop :=
  (∀ (s : State) (tag g : Nat) (w : GroupWire), s.takes → g < 8 → s.store.lock = false → s.store.state = .idle →
    w.members.length ≤ 16 → w.bearing ≤ 8 → (∀ m ∈ w.members, m < 48) → w.members.Nodup →
    ∃ t, exec (.groupWrite tag g w) s = .next t
      ∧ t.group g = { s.group g with pendingCopy := {
          bearing := if w.bearing = 8 then .roof else .sector w.bearing, chained := w.chained, members := w.members
          gustLimit := max 50 (min w.gustLimit 600), meanLimit := max 30 (min w.meanLimit 600)
          leeGrace := min w.leeGrace 900, firstDrop := w.firstDrop } }
      ∧ (∀ h, h ≠ g → t.group h = s.group h)
      ∧ t.hasReply tag (.groupWrite g w) (if groupOfWire w = (t.group g).pendingCopy then .ok else .clamped) []
      ∧ t.calm = { s with groups := t.groups, host := t.host }.calm)
  ∧ (∀ (s : State) (tag g : Nat), s.takes → g < 8 → s.store.lock = false → s.store.state = .idle →
    ∃ t, exec (.groupApply tag g) s = .next t
      ∧ (let waits : Bool := (s.group g).active.members.any fun i =>
           match s.job? i with | none => false | some j => j.state.moving
         let conflict : Bool := (List.range 8).any fun h => h != g && (s.group g).pendingCopy.members.any fun i =>
           (s.group h).active.members.contains i
         t.group g = (
            if waits then { s.group g with applyRequested := true }
            else if conflict then { s.group g with applyRequested := false }
            else ⟨(s.group g).pendingCopy, (s.group g).pendingCopy, false⟩)
          ∧ (waits = true → t.host.notices = s.host.notices)
          ∧ (waits = false → s.host.notices.length < 7 →
              t.host.notices = s.host.notices ++ [.applyDone g (if conflict then .conflict else .ok)])
          ∧ (waits = false → conflict = false → (t.threat g).rank ≠ none →
              ∀ i ∈ (s.group g).pendingCopy.members, i ∉ (s.group g).active.members → OpeningCovered s t g i))
      ∧ (∀ h, h ≠ g → t.group h = s.group h) ∧ t.hasReply tag (.groupApply g) .accepted [] ∧ t.steady = s.steady)

/-- SITE_WRITE accepted (R25, R53, R79, R93, R113, R159): the whole record is replaced, each numeric field clamped to its
range, Vc lowered to Vd - 10, and the reply CLAMPED when either changed a value. A rain sensor whose enable bit the write
clears is held in DRY (R34), and nothing else of the weather changes; a zone that sounds for a warning starts its cadence
again when the write changes it, and runs on otherwise (R99). -/
def Obligations.SiteWriteTakesEffect : Prop :=
  ∀ (s : State) (tag : Nat) (w : SiteWire), s.takes → s.store.lock = false → s.store.state = .idle →
    (∀ x ∈ w.tones.toList, x ≤ 3) → (∀ x ∈ w.cadences.toList, x ≤ 1) →
    (∀ x ∈ [w.rainLamp, w.windLamp, w.faultLamp, w.supplyLamp], x ≤ 63 ∨ x = 255) →
    min w.shortLevel 1023 < min w.wetLevel 1023 → min w.wetLevel 1023 < min w.openLevel 1023 →
    reservedSum s.reserv ≤ max 20 (min w.budget 800) →
    ∃ t, exec (.siteWrite tag w) s = .next t ∧ t.site = siteOfWire (clampSite w)
      ∧ (let lamp : Nat → Option Nat := fun n => if n = 255 then none else some n
         t.site = {
           factorK := max 1 (min w.factorK 1023), leeMargin := min w.leeMargin 100
           calmHold := max 60 (min w.calmHold 3600), rainMask := BitVec.ofNat 4 w.rainMask
           shortLevel := min w.shortLevel 1023, wetLevel := min w.wetLevel 1023, openLevel := min w.openLevel 1023
           rainConfirm := max 1 (min w.rainConfirm 60), dryConfirm := max 60 (min w.dryConfirm 3600)
           forecastMargin := min w.forecastMargin 1800, retryLimit := min w.retryLimit 5
           retryDelay := max 5 (min w.retryDelay 300), manualAllowance := max 10 (min w.manualAllowance 600)
           budget := max 20 (min w.budget 800), derateStart := max 160 (min w.derateStart 280)
           cutoffVoltage := min (max 150 (min w.cutoffVoltage 280)) (max 160 (min w.derateStart 280) - 10)
           warningInterval := max 1 (min w.warningInterval 15), failClosed := w.failClosed, soundMoving := w.soundMoving
           tones := w.tones.map fun n => if n = 0 then .hz512 else if n = 1 then .hz1024 else if n = 2 then .hz2048 else .hz4096
           cadences := w.cadences.map fun n => if n = 0 then .continuous else .pulsed
           rainLamp := lamp w.rainLamp, windLamp := lamp w.windLamp, faultLamp := lamp w.faultLamp
           supplyLamp := lamp w.supplyLamp, replyTimeout := max 10 (min w.replyTimeout 250)
           alertMask := BitVec.ofNat 11 w.alertMask })
      ∧ t.hasReply tag (.siteWrite w) (if clampSite w = w then .ok else .clamped) []
      ∧ (∀ k, k < 4 → t.weather.input k =
          if w.rainMask.testBit k = false ∧ s.site.rainMask.getLsbD k = true then
            { s.weather.input k with state := .dry, since := none, outRun := 0, inRun := 0 }
          else s.weather.input k)
      ∧ t.weather = { s.weather with rain := t.weather.rain }
      ∧ (∀ z, z < 4 → (s.zone z).sounding = true → (∃ x ∈ s.warnings, x.zone = z) → t.zone z =
          if s.site.cadence z = t.site.cadence z then s.zone z else { s.zone z with phaseOn := true, count := 0 })
      ∧ t.steady = { s with site := t.site, weather := t.weather }.steady

/-- MOVE accepted (R72): a manual job in QUEUED with the clamped target, failure status OK, the walk triggered. -/
def Obligations.MoveCreatesManualJob : Prop :=
  ∀ (s : State) (tag i target : Nat), s.takes → i < 48 → (s.cfg i).enabled = true → s.isHeld i = false →
    s.job? i = none → s.reservation? i = none → (s.node i).presence = .present →
    (s.moreOpen i (min target (s.effTravel i)) = true → s.threatened i = false ∧ s.laterMemberBusy i = false) →
    exec (.move tag i target) s = .next (s.answered tag (.move i target)
      (if target ≤ s.effTravel i then .ok else .clamped) [] fun u =>
        { u with
          walkDue := true
          lives := u.lives.setIfInBounds i { s.live i with failed := false }
          jobs := insertJob
            { opening := i, target := min target (s.effTravel i), rank := .manual
              deadline := s.T + s.site.manualAllowance, estimate := s.runEstimate i (min target (s.effTravel i))
              state := .queued, retries := 0, missed := false, startedAt := none, tag := some tag, cause := none }
            s.jobs })

/-- GROUP_CLOSE (R73): a manual close job for each member that is enabled, not held, without job or reservation, PRESENT
and not closed, with the run estimate of its move to 0 (R52) and its failure status made OK; the reply counts them. The
walk runs once, after the last member, whether or not any qualifies (R58). -/
def Obligations.GroupCloseCreatesJobs : Prop :=
  ∀ (s : State) (tag g : Nat), s.takes → g < 8 → (s.group g).active.members.Nodup →
    ∃ t, exec (.groupClose tag g) s = .next t
      ∧ (let chosen := (s.group g).active.members.filter fun i => decide (i < 48) && (s.cfg i).enabled && !s.isHeld i
           && (s.job? i).isNone && (s.reservation? i).isNone && (s.node i).presence == .present && !s.closed i
         t = s.answered tag (.groupClose g) .ok [byteOf chosen.length] (fun u =>
            { u with
              walkDue := true
              lives := chosen.foldl (fun lives i => lives.setIfInBounds i { s.live i with failed := false }) u.lives
              jobs := chosen.foldl (fun jobs i => insertJob
                { opening := i, target := 0, rank := .manual, deadline := s.T + s.site.manualAllowance
                  estimate := s.runEstimate i 0, state := .queued, retries := 0, missed := false, startedAt := none
                  tag := some tag, cause := none } jobs) u.jobs })
          ∧ t.hasReply tag (.groupClose g) .ok [byteOf chosen.length]
          ∧ (∀ i ∈ chosen, (t.live i).failed = false
              ∧ ∃ j, t.job? i = some j ∧ j.target = 0 ∧ j.rank = .manual ∧ j.tag = some tag
                ∧ j.deadline = s.T + s.site.manualAllowance)
          ∧ (∀ i, i ∉ chosen → (t.job? i).isSome = (s.job? i).isSome ∧ t.live i = s.live i))
      ∧ t.steady = s.steady

/-- HOLD of 1 minute or more accepted (R76, R68): the opening is held until T + 60 x minutes, at most 240 minutes, and
its job is dealt with by its state, a DRIVE that still waits replaced by the halt that is owed. HOLD of 0 minutes (R77): a
held opening leaves the held list and a coverage check runs for it; OK is the reply also when it was not held. -/
def Obligations.HoldDealsWithTheJob : Prop :=
  (∀ (s : State) (tag i minutes : Nat), s.takes → i < 48 → (s.cfg i).enabled = true → 1 ≤ minutes →
    (s.isHeld i = true ∨ s.held.length < 8) →
    ∃ t, exec (.hold tag i minutes) s = .next t ∧ t.heldUntil i = some (s.T + 60 * min minutes 240)
      ∧ (∀ k, k ≠ i → t.heldUntil k = s.heldUntil k)
      ∧ t.job? i = (match s.job? i with
        | none => none
        | some j => match j.state with
          | .queued => none
          | .announcing => none
          | .retryWait _ => none
          | .dispatching => some { j with state := .stopping .cancelled }
          | .running => some { j with state := .stopping .cancelled }
          | .stopping .requeueClose => some { j with state := .stopping .cancelled }
          | .stopping _ => some j)
      ∧ (QueueBounded s → (∃ j, s.job? i = some j ∧ (j.state = .dispatching ∨ j.state = .running)) →
          t.haltOwed i ∧ t.driveWaits i = false)
      ∧ t.hasReply tag (.hold i minutes) (if minutes ≤ 240 then .ok else .clamped) [] ∧ t.steady = s.steady)
  ∧ (∀ (s : State) (tag i : Nat), s.takes → i < 48 → (s.cfg i).enabled = true →
    (s.isHeld i = false → exec (.hold tag i 0) s = .next ((s.taking tag (.hold i 0)).replied tag (.hold i 0) .ok []))
      ∧ (s.isHeld i = true →
        exec (.hold tag i 0) s = .next (s.answered tag (.hold i 0) .ok [] fun u =>
            ({ u with held := u.held.filter (fun h => h.opening != i) } : State).coverage i)
          ∧ ∃ t, exec (.hold tag i 0) s = .next t ∧ t.heldUntil i = none
            ∧ (∀ k, k ≠ i → t.heldUntil k = s.heldUntil k) ∧ t.hasReply tag (.hold i 0) .ok [] ∧ t.steady = s.steady))

/-- FORECAST and FORECAST_WITHDRAW accepted (R38, R39): the entry computed from the clamped values and the present T
stands in the list in place of the tag's earlier one; a withdrawal removes it. Both evaluate the FORECAST sources of all
groups in the same event (R38, R39, R44), over the list as it then stands: an episode starts and ends with them (R46, R47),
and a source that was raised or moved earlier is handed off (R45). FORECAST_EXPIRY (R39): the tag's entry that has run out
leaves the list. -/
def Obligations.ForecastsListedAndExpired : Prop :=
  (∀ (s : State) (tag ftag onset duration gust mask : Nat), s.takes →
    (let evaluated : State → Prop := fun t => ∀ g, g < 8 →
       ForecastEvaluated t (s.group g).active.gustLimit g
         ∧ (t.threat g).wind = (s.threat g).wind ∧ (t.threat g).rain = (s.threat g).rain
         ∧ (t.threat g).episodeStart = Threat.episodeAfter s.T (s.threat g) (t.threat g)
         ∧ (SourceSharpened (s.threat g).forecast (t.threat g).forecast →
           ∀ i ∈ (s.group g).active.members, s.groupOf i = some g → OpeningCovered s t g i)
     (1 ≤ ftag → (s.weather.forecasts.length < 4 ∨ ∃ f ∈ s.weather.forecasts, f.ftag = ftag) →
      ∃ t, exec (.forecast tag ftag onset duration gust mask) s = .next t
        ∧ (let at' := s.T + min onset 7200
           let entry : Forecast := {
             ftag := ftag, onsetAt := at', endsAt := at' + max 60 (min duration 21600), gust := min gust 600
             mask := BitVec.ofNat 8 mask, leadDeadline := max s.T (at' - s.site.forecastMargin) }
           ∀ f, f ∈ t.weather.forecasts ↔ f = entry ∨ f ∈ s.weather.forecasts ∧ f.ftag ≠ ftag)
        ∧ t.hasReply tag (.forecast ftag onset duration gust mask)
          (if onset ≤ 7200 ∧ 60 ≤ duration ∧ duration ≤ 21600 ∧ gust ≤ 600 then .ok else .clamped) []
        ∧ (s.noApplyWaits → evaluated t)
        ∧ t.steady = { s with weather := t.weather, threats := t.threats }.steady)
      ∧ ((∃ f ∈ s.weather.forecasts, f.ftag = ftag) →
        ∃ t, exec (.forecastWithdraw tag ftag) s = .next t
          ∧ t.weather.forecasts = s.weather.forecasts.filter (fun f => f.ftag != ftag)
          ∧ t.hasReply tag (.forecastWithdraw ftag) .ok []
          ∧ (s.noApplyWaits → evaluated t)
          ∧ t.steady = { s with weather := t.weather, threats := t.threats }.steady)))
  ∧ (∀ (s : State) (f : Forecast), s.phase = .running → 0 < s.due.sample → f ∈ s.weather.forecasts → f.endsAt ≤ s.T →
    ∃ t, exec (.forecastExpiry f.ftag) s = .next t ∧ f ∉ t.weather.forecasts
      ∧ (∀ x ∈ s.weather.forecasts, x.ftag ≠ f.ftag → x ∈ t.weather.forecasts)
      ∧ t = { s with weather := { s.weather with forecasts := t.weather.forecasts } })

/-- COUNTERS_READ_CLEAR (R170): the reply carries the eighteen counters as they stood, two bytes each in their order,
and all eighteen become 0, in one event. -/
def Obligations.CountersReadAndZeroed : Prop :=
  ∀ (s : State) (tag : Nat), s.takes →
    exec (.countersReadClear tag) s = .next
      ({ s.taking tag .countersReadClear with counters := Vector.replicate 18 0 }.replied tag .countersReadClear .ok
        (s.counters.toList.flatMap fun n => [byteOf (n / 256), byteOf n]))

/-- ALERTS_ACK (R167): each named event flag is cleared, every other flag stays, the reply carries the flags after it,
and no notice is placed. The ALERT output while the part runs (R168): asserted while some flag is set whose mask bit is
clear. -/
def Obligations.AlertsAckAndOutput : Prop :=
  (∀ (s : State) (tag flags : Nat), s.takes →
    ∃ t, exec (.alertsAck tag flags) s = .next t
      ∧ (∀ f : AlertFlag, t.alertSet f = (s.alertSet f && !(flags.testBit f.number && decide (f.number < 6))))
      ∧ t = ({ s.taking tag (.alertsAck flags) with alerts := t.alerts }.replied tag (.alertsAck flags) .ok
          [byteOf (t.alerts.toNat / 256), byteOf t.alerts.toNat]))
  ∧ (∀ s : State, s.outputs.alert = true ↔
    s.phase = .running ∧ ∃ f : AlertFlag, s.alertSet f = true ∧ s.site.alertMask.getLsbD f.number = false)

/-! ## The Settings Store -/

/-- STORE_SAVE, STORE_ERASE, STORE_LOCK and RESTART (R173, R175, R176, R177): what each begins, and what it is refused.
STORE_LOCK is tested in the order BUSY, NO_IMAGE, already locked; then the lock byte is programmed, and a failed verify
takes the image with it. ERASE_SECTOR_DONE, PROGRAM_SECTOR_DONE and SECTOR_TIMEOUT (R175, R177): the next sector begins,
programming follows the last erase of a save, and the operation ends with its STORE-DONE: at the last erase of an erase,
at the last program of a save, and at either failure. That the failed sector is kept as unsettled is the model's own field
(log 17). -/
def Obligations.StoreOperations : Prop :=
  (∀ (s : State) (tag : Nat) (v : Bool), s.takes →
    exec (.storeSave tag) s = .next (
        if s.store.lock then (s.taking tag .storeSave).replied tag .storeSave .locked []
        else if s.store.state = .idle then
          { s.taking tag .storeSave with
            store := ⟨.erasing .save 0, false, s.store.lock, some ⟨s.site, s.cfgs, s.groups.map Group.active⟩⟩
            alerts := s.alerts &&& ~~~ 0x200#11 }.replied tag .storeSave .accepted []
        else (s.taking tag .storeSave).replied tag .storeSave .busy [])
      ∧ exec (.storeErase tag) s = .next (
        if s.store.state = .idle then
          { s.taking tag .storeErase with
            store := ⟨.erasing .erase 0, false, false, none⟩
            alerts := s.alerts &&& ~~~ 0x200#11 }.replied tag .storeErase .accepted []
        else (s.taking tag .storeErase).replied tag .storeErase .busy [])
      ∧ exec (.restart tag) s = .next ((s.taking tag .restart).replied tag .restart .ok [])
      ∧ (s.store.state ≠ .idle → exec (.storeLock tag v) s = .next
          ((s.taking tag (.storeLock v)).replied tag (.storeLock v) .busy []))
      ∧ (s.store.state = .idle → s.store.valid = false → exec (.storeLock tag v) s = .next
          ((s.taking tag (.storeLock v)).replied tag (.storeLock v) .noImage []))
      ∧ (s.store.state = .idle → s.store.valid = true → s.store.lock = true → exec (.storeLock tag v) s = .next
          ((s.taking tag (.storeLock v)).replied tag (.storeLock v) .ok []))
      ∧ (s.store.state = .idle → s.store.valid = true → s.store.lock = false →
        ∃ t, exec (.storeLock tag v) s = .next t
          ∧ t.store = { s.store with lock := v, valid := v }
          ∧ (v = true → t.image.read 2047 = 0x5A#8)
          ∧ (v = false → t.image.read 2047 ≠ 0xFF#8 ∧ t.image.read 2047 ≠ 0x5A#8
              ∧ t.alertSet .storeFault = true ∧ t.alertSet .storeInvalid = true)
          ∧ (∀ a, a ≠ 2047 → t.image.read a = s.image.read a)
          ∧ t.hasReply tag (.storeLock v) (if v then .ok else .noImage) []))
  ∧ (∀ (s : State) (op : StoreOp) (k : Nat), s.phase = .running → s.host.notices.length < 5 →
    (s.store.state = .erasing op k → k < 8 →
      (∃ t, exec (.eraseSectorDone true) s = .next t ∧ t.image = s.image.eraseSector k
        ∧ (∀ a, 256 * k ≤ a → a < 256 * k + 256 → t.image.read a = 0xFF#8)
        ∧ (∀ a, a < 256 * k ∨ 256 * k + 256 ≤ a → t.image.read a = s.image.read a)
        ∧ t.store.state = (if k < 7 then .erasing op (k + 1) else if op = .save then .programming 0 else .idle)
        ∧ t.store.valid = (if k < 7 ∨ op = .save then s.store.valid else false)
        ∧ (k = 7 → op = .erase → t.alertSet .storeInvalid = true ∧ t.tells (.storeDone .erase .ok))
        ∧ (k < 7 ∨ op = .save → t.host = s.host ∧ t.alerts = s.alerts))
      ∧ (∃ t, exec (.eraseSectorDone false) s = .next t ∧ t.store = { s.store with state := .idle, valid := false, copy := none }
        ∧ t.alertSet .storeFault = true ∧ t.alertSet .storeInvalid = true ∧ k ∈ t.image.unsettled
        ∧ t.tells (.storeDone op .eraseFail))
      ∧ exec .sectorTimeout s = exec (.eraseSectorDone false) s)
    ∧ (s.store.state = .programming k → k < 4 →
      (∃ t, exec (.programSectorDone true) s = .next t
        ∧ t.store = (if k < 3 then { s.store with state := .programming (k + 1) }
            else { s.store with state := .idle, valid := true, copy := none })
        ∧ (∀ a, a < 256 * k ∨ 256 * k + 256 ≤ a → t.image.read a = s.image.read a)
        ∧ (∀ c, s.store.copy = some c → ∀ a, a < 256 →
            t.image.read (256 * k + a) = ((c.bytes[256 * k + a]?).getD 0xFF#8))
        ∧ (if k < 3 then t.host = s.host else t.tells (.storeDone .save .ok)) ∧ t.alerts = s.alerts)
      ∧ (∃ t, exec (.programSectorDone false) s = .next t ∧ t.store = { s.store with state := .idle, valid := false, copy := none }
        ∧ t.alertSet .storeFault = true ∧ t.alertSet .storeInvalid = true ∧ k ∈ t.image.unsettled
        ∧ t.tells (.storeDone .save .programFail))
      ∧ exec .sectorTimeout s = exec (.programSectorDone false) s))

/-! ## Alerts, capacities and the state between events -/

/-- A level flag is set exactly while its condition holds (R165), whatever command a step runs. -/
def Obligations.LevelFlagsStayWithTheirConditions : Prop :=
  ∀ s t : State, LevelFlagsFollow s → step s = .next t → LevelFlagsFollow t

/-- The lists and counters keep their bounds (R27, R38, R76, R80, R156, R169), whatever command a step runs. After every
step no trigger of the walk and no halt of the event is left over, and the image keeps its canonical form (R174). The
trigger and the halts of the event are the model's own fields walkDue and newHalts (log 34 and log 23): the walk runs in
the event of its trigger (R58), and a halt joins the pending-halt list in the event that makes it pending (R122). -/
def Obligations.CapacitiesHoldAndStepsSettle : Prop :=
  (∀ s t : State, Capacities s → step s = .next t → Capacities t)
  ∧ (∀ s t : State, Settled s → ImageCanonical s → step s = .next t → Settled t ∧ ImageCanonical t)

/-- The state after reset meets every invariant. -/
def Obligations.ResetMeetsTheInvariants : Prop :=
  JobsOrdered State.reset.jobs ∧ ReservationsFit State.reset ∧ StartsCapped State.reset ∧ QueueBounded State.reset
    ∧ GrantedLineFree State.reset ∧ LevelFlagsFollow State.reset ∧ Capacities State.reset ∧ Settled State.reset
    ∧ ImageCanonical State.reset ∧ MotionRequestsFollowJobs State.reset ∧ ZonesFollowHolders State.reset
end

