-- ==== Sys2Proof/Laws/State.lean ====
section
/-! SUPPORT. The named updates of State: one lemma for each field, so that no later proof unfolds a record update. -/

namespace Sys2Proof.Machine

variable (s : State)


/-! ### modLive -/

@[simp] theorem State.modLive_pending (i : Nat) (f : OpeningLive → OpeningLive) : (State.modLive i f s).pending = s.pending := rfl
@[simp] theorem State.modLive_phase (i : Nat) (f : OpeningLive → OpeningLive) : (State.modLive i f s).phase = s.phase := rfl
@[simp] theorem State.modLive_cause (i : Nat) (f : OpeningLive → OpeningLive) : (State.modLive i f s).cause = s.cause := rfl
@[simp] theorem State.modLive_nreset (i : Nat) (f : OpeningLive → OpeningLive) : (State.modLive i f s).nreset = s.nreset := rfl
@[simp] theorem State.modLive_svcreq (i : Nat) (f : OpeningLive → OpeningLive) : (State.modLive i f s).svcreq = s.svcreq := rfl
@[simp] theorem State.modLive_tenths (i : Nat) (f : OpeningLive → OpeningLive) : (State.modLive i f s).tenths = s.tenths := rfl
@[simp] theorem State.modLive_divider (i : Nat) (f : OpeningLive → OpeningLive) : (State.modLive i f s).divider = s.divider := rfl
@[simp] theorem State.modLive_due (i : Nat) (f : OpeningLive → OpeningLive) : (State.modLive i f s).due = s.due := rfl
@[simp] theorem State.modLive_site (i : Nat) (f : OpeningLive → OpeningLive) : (State.modLive i f s).site = s.site := rfl
@[simp] theorem State.modLive_cfgs (i : Nat) (f : OpeningLive → OpeningLive) : (State.modLive i f s).cfgs = s.cfgs := rfl
@[simp] theorem State.modLive_lives (i : Nat) (f : OpeningLive → OpeningLive) : (State.modLive i f s).lives = s.lives.setIfInBounds i (f (s.live i)) := rfl
@[simp] theorem State.modLive_groups (i : Nat) (f : OpeningLive → OpeningLive) : (State.modLive i f s).groups = s.groups := rfl
@[simp] theorem State.modLive_threats (i : Nat) (f : OpeningLive → OpeningLive) : (State.modLive i f s).threats = s.threats := rfl
@[simp] theorem State.modLive_weather (i : Nat) (f : OpeningLive → OpeningLive) : (State.modLive i f s).weather = s.weather := rfl
@[simp] theorem State.modLive_jobs (i : Nat) (f : OpeningLive → OpeningLive) : (State.modLive i f s).jobs = s.jobs := rfl
@[simp] theorem State.modLive_held (i : Nat) (f : OpeningLive → OpeningLive) : (State.modLive i f s).held = s.held := rfl
@[simp] theorem State.modLive_supply (i : Nat) (f : OpeningLive → OpeningLive) : (State.modLive i f s).supply = s.supply := rfl
@[simp] theorem State.modLive_reserv (i : Nat) (f : OpeningLive → OpeningLive) : (State.modLive i f s).reserv = s.reserv := rfl
@[simp] theorem State.modLive_warnings (i : Nat) (f : OpeningLive → OpeningLive) : (State.modLive i f s).warnings = s.warnings := rfl
@[simp] theorem State.modLive_zones (i : Nat) (f : OpeningLive → OpeningLive) : (State.modLive i f s).zones = s.zones := rfl
@[simp] theorem State.modLive_panel (i : Nat) (f : OpeningLive → OpeningLive) : (State.modLive i f s).panel = s.panel := rfl
@[simp] theorem State.modLive_line (i : Nat) (f : OpeningLive → OpeningLive) : (State.modLive i f s).line = s.line := rfl
@[simp] theorem State.modLive_nodes (i : Nat) (f : OpeningLive → OpeningLive) : (State.modLive i f s).nodes = s.nodes := rfl
@[simp] theorem State.modLive_countingPaused (i : Nat) (f : OpeningLive → OpeningLive) : (State.modLive i f s).countingPaused = s.countingPaused := rfl
@[simp] theorem State.modLive_host (i : Nat) (f : OpeningLive → OpeningLive) : (State.modLive i f s).host = s.host := rfl
@[simp] theorem State.modLive_alerts (i : Nat) (f : OpeningLive → OpeningLive) : (State.modLive i f s).alerts = s.alerts := rfl
@[simp] theorem State.modLive_counters (i : Nat) (f : OpeningLive → OpeningLive) : (State.modLive i f s).counters = s.counters := rfl
@[simp] theorem State.modLive_store (i : Nat) (f : OpeningLive → OpeningLive) : (State.modLive i f s).store = s.store := rfl
@[simp] theorem State.modLive_image (i : Nat) (f : OpeningLive → OpeningLive) : (State.modLive i f s).image = s.image := rfl
@[simp] theorem State.modLive_walkDue (i : Nat) (f : OpeningLive → OpeningLive) : (State.modLive i f s).walkDue = s.walkDue := rfl
@[simp] theorem State.modLive_freeUses (i : Nat) (f : OpeningLive → OpeningLive) : (State.modLive i f s).freeUses = s.freeUses := rfl

/-! ### modNode -/

@[simp] theorem State.modNode_pending (i : Nat) (f : NodeRecord → NodeRecord) : (State.modNode i f s).pending = s.pending := rfl
@[simp] theorem State.modNode_phase (i : Nat) (f : NodeRecord → NodeRecord) : (State.modNode i f s).phase = s.phase := rfl
@[simp] theorem State.modNode_cause (i : Nat) (f : NodeRecord → NodeRecord) : (State.modNode i f s).cause = s.cause := rfl
@[simp] theorem State.modNode_nreset (i : Nat) (f : NodeRecord → NodeRecord) : (State.modNode i f s).nreset = s.nreset := rfl
@[simp] theorem State.modNode_svcreq (i : Nat) (f : NodeRecord → NodeRecord) : (State.modNode i f s).svcreq = s.svcreq := rfl
@[simp] theorem State.modNode_tenths (i : Nat) (f : NodeRecord → NodeRecord) : (State.modNode i f s).tenths = s.tenths := rfl
@[simp] theorem State.modNode_divider (i : Nat) (f : NodeRecord → NodeRecord) : (State.modNode i f s).divider = s.divider := rfl
@[simp] theorem State.modNode_due (i : Nat) (f : NodeRecord → NodeRecord) : (State.modNode i f s).due = s.due := rfl
@[simp] theorem State.modNode_site (i : Nat) (f : NodeRecord → NodeRecord) : (State.modNode i f s).site = s.site := rfl
@[simp] theorem State.modNode_cfgs (i : Nat) (f : NodeRecord → NodeRecord) : (State.modNode i f s).cfgs = s.cfgs := rfl
@[simp] theorem State.modNode_lives (i : Nat) (f : NodeRecord → NodeRecord) : (State.modNode i f s).lives = s.lives := rfl
@[simp] theorem State.modNode_groups (i : Nat) (f : NodeRecord → NodeRecord) : (State.modNode i f s).groups = s.groups := rfl
@[simp] theorem State.modNode_threats (i : Nat) (f : NodeRecord → NodeRecord) : (State.modNode i f s).threats = s.threats := rfl
@[simp] theorem State.modNode_weather (i : Nat) (f : NodeRecord → NodeRecord) : (State.modNode i f s).weather = s.weather := rfl
@[simp] theorem State.modNode_jobs (i : Nat) (f : NodeRecord → NodeRecord) : (State.modNode i f s).jobs = s.jobs := rfl
@[simp] theorem State.modNode_held (i : Nat) (f : NodeRecord → NodeRecord) : (State.modNode i f s).held = s.held := rfl
@[simp] theorem State.modNode_supply (i : Nat) (f : NodeRecord → NodeRecord) : (State.modNode i f s).supply = s.supply := rfl
@[simp] theorem State.modNode_reserv (i : Nat) (f : NodeRecord → NodeRecord) : (State.modNode i f s).reserv = s.reserv := rfl
@[simp] theorem State.modNode_warnings (i : Nat) (f : NodeRecord → NodeRecord) : (State.modNode i f s).warnings = s.warnings := rfl
@[simp] theorem State.modNode_zones (i : Nat) (f : NodeRecord → NodeRecord) : (State.modNode i f s).zones = s.zones := rfl
@[simp] theorem State.modNode_panel (i : Nat) (f : NodeRecord → NodeRecord) : (State.modNode i f s).panel = s.panel := rfl
@[simp] theorem State.modNode_line (i : Nat) (f : NodeRecord → NodeRecord) : (State.modNode i f s).line = s.line := rfl
@[simp] theorem State.modNode_nodes (i : Nat) (f : NodeRecord → NodeRecord) : (State.modNode i f s).nodes = s.nodes.setIfInBounds i (f (s.node i)) := rfl
@[simp] theorem State.modNode_countingPaused (i : Nat) (f : NodeRecord → NodeRecord) : (State.modNode i f s).countingPaused = s.countingPaused := rfl
@[simp] theorem State.modNode_host (i : Nat) (f : NodeRecord → NodeRecord) : (State.modNode i f s).host = s.host := rfl
@[simp] theorem State.modNode_alerts (i : Nat) (f : NodeRecord → NodeRecord) : (State.modNode i f s).alerts = s.alerts := rfl
@[simp] theorem State.modNode_counters (i : Nat) (f : NodeRecord → NodeRecord) : (State.modNode i f s).counters = s.counters := rfl
@[simp] theorem State.modNode_store (i : Nat) (f : NodeRecord → NodeRecord) : (State.modNode i f s).store = s.store := rfl
@[simp] theorem State.modNode_image (i : Nat) (f : NodeRecord → NodeRecord) : (State.modNode i f s).image = s.image := rfl
@[simp] theorem State.modNode_walkDue (i : Nat) (f : NodeRecord → NodeRecord) : (State.modNode i f s).walkDue = s.walkDue := rfl
@[simp] theorem State.modNode_freeUses (i : Nat) (f : NodeRecord → NodeRecord) : (State.modNode i f s).freeUses = s.freeUses := rfl

/-! ### setGroup -/

@[simp] theorem State.setGroup_pending (g : Nat) (x : Group) : (State.setGroup g x s).pending = s.pending := rfl
@[simp] theorem State.setGroup_phase (g : Nat) (x : Group) : (State.setGroup g x s).phase = s.phase := rfl
@[simp] theorem State.setGroup_cause (g : Nat) (x : Group) : (State.setGroup g x s).cause = s.cause := rfl
@[simp] theorem State.setGroup_nreset (g : Nat) (x : Group) : (State.setGroup g x s).nreset = s.nreset := rfl
@[simp] theorem State.setGroup_svcreq (g : Nat) (x : Group) : (State.setGroup g x s).svcreq = s.svcreq := rfl
@[simp] theorem State.setGroup_tenths (g : Nat) (x : Group) : (State.setGroup g x s).tenths = s.tenths := rfl
@[simp] theorem State.setGroup_divider (g : Nat) (x : Group) : (State.setGroup g x s).divider = s.divider := rfl
@[simp] theorem State.setGroup_due (g : Nat) (x : Group) : (State.setGroup g x s).due = s.due := rfl
@[simp] theorem State.setGroup_site (g : Nat) (x : Group) : (State.setGroup g x s).site = s.site := rfl
@[simp] theorem State.setGroup_cfgs (g : Nat) (x : Group) : (State.setGroup g x s).cfgs = s.cfgs := rfl
@[simp] theorem State.setGroup_lives (g : Nat) (x : Group) : (State.setGroup g x s).lives = s.lives := rfl
@[simp] theorem State.setGroup_groups (g : Nat) (x : Group) : (State.setGroup g x s).groups = s.groups.setIfInBounds g x := rfl
@[simp] theorem State.setGroup_threats (g : Nat) (x : Group) : (State.setGroup g x s).threats = s.threats := rfl
@[simp] theorem State.setGroup_weather (g : Nat) (x : Group) : (State.setGroup g x s).weather = s.weather := rfl
@[simp] theorem State.setGroup_jobs (g : Nat) (x : Group) : (State.setGroup g x s).jobs = s.jobs := rfl
@[simp] theorem State.setGroup_held (g : Nat) (x : Group) : (State.setGroup g x s).held = s.held := rfl
@[simp] theorem State.setGroup_supply (g : Nat) (x : Group) : (State.setGroup g x s).supply = s.supply := rfl
@[simp] theorem State.setGroup_reserv (g : Nat) (x : Group) : (State.setGroup g x s).reserv = s.reserv := rfl
@[simp] theorem State.setGroup_warnings (g : Nat) (x : Group) : (State.setGroup g x s).warnings = s.warnings := rfl
@[simp] theorem State.setGroup_zones (g : Nat) (x : Group) : (State.setGroup g x s).zones = s.zones := rfl
@[simp] theorem State.setGroup_panel (g : Nat) (x : Group) : (State.setGroup g x s).panel = s.panel := rfl
@[simp] theorem State.setGroup_line (g : Nat) (x : Group) : (State.setGroup g x s).line = s.line := rfl
@[simp] theorem State.setGroup_nodes (g : Nat) (x : Group) : (State.setGroup g x s).nodes = s.nodes := rfl
@[simp] theorem State.setGroup_countingPaused (g : Nat) (x : Group) : (State.setGroup g x s).countingPaused = s.countingPaused := rfl
@[simp] theorem State.setGroup_host (g : Nat) (x : Group) : (State.setGroup g x s).host = s.host := rfl
@[simp] theorem State.setGroup_alerts (g : Nat) (x : Group) : (State.setGroup g x s).alerts = s.alerts := rfl
@[simp] theorem State.setGroup_counters (g : Nat) (x : Group) : (State.setGroup g x s).counters = s.counters := rfl
@[simp] theorem State.setGroup_store (g : Nat) (x : Group) : (State.setGroup g x s).store = s.store := rfl
@[simp] theorem State.setGroup_image (g : Nat) (x : Group) : (State.setGroup g x s).image = s.image := rfl
@[simp] theorem State.setGroup_walkDue (g : Nat) (x : Group) : (State.setGroup g x s).walkDue = s.walkDue := rfl
@[simp] theorem State.setGroup_freeUses (g : Nat) (x : Group) : (State.setGroup g x s).freeUses = s.freeUses := rfl

/-! ### setThreat -/

@[simp] theorem State.setThreat_pending (g : Nat) (x : Threat) : (State.setThreat g x s).pending = s.pending := rfl
@[simp] theorem State.setThreat_phase (g : Nat) (x : Threat) : (State.setThreat g x s).phase = s.phase := rfl
@[simp] theorem State.setThreat_cause (g : Nat) (x : Threat) : (State.setThreat g x s).cause = s.cause := rfl
@[simp] theorem State.setThreat_nreset (g : Nat) (x : Threat) : (State.setThreat g x s).nreset = s.nreset := rfl
@[simp] theorem State.setThreat_svcreq (g : Nat) (x : Threat) : (State.setThreat g x s).svcreq = s.svcreq := rfl
@[simp] theorem State.setThreat_tenths (g : Nat) (x : Threat) : (State.setThreat g x s).tenths = s.tenths := rfl
@[simp] theorem State.setThreat_divider (g : Nat) (x : Threat) : (State.setThreat g x s).divider = s.divider := rfl
@[simp] theorem State.setThreat_due (g : Nat) (x : Threat) : (State.setThreat g x s).due = s.due := rfl
@[simp] theorem State.setThreat_site (g : Nat) (x : Threat) : (State.setThreat g x s).site = s.site := rfl
@[simp] theorem State.setThreat_cfgs (g : Nat) (x : Threat) : (State.setThreat g x s).cfgs = s.cfgs := rfl
@[simp] theorem State.setThreat_lives (g : Nat) (x : Threat) : (State.setThreat g x s).lives = s.lives := rfl
@[simp] theorem State.setThreat_groups (g : Nat) (x : Threat) : (State.setThreat g x s).groups = s.groups := rfl
@[simp] theorem State.setThreat_threats (g : Nat) (x : Threat) : (State.setThreat g x s).threats = s.threats.setIfInBounds g x := rfl
@[simp] theorem State.setThreat_weather (g : Nat) (x : Threat) : (State.setThreat g x s).weather = s.weather := rfl
@[simp] theorem State.setThreat_jobs (g : Nat) (x : Threat) : (State.setThreat g x s).jobs = s.jobs := rfl
@[simp] theorem State.setThreat_held (g : Nat) (x : Threat) : (State.setThreat g x s).held = s.held := rfl
@[simp] theorem State.setThreat_supply (g : Nat) (x : Threat) : (State.setThreat g x s).supply = s.supply := rfl
@[simp] theorem State.setThreat_reserv (g : Nat) (x : Threat) : (State.setThreat g x s).reserv = s.reserv := rfl
@[simp] theorem State.setThreat_warnings (g : Nat) (x : Threat) : (State.setThreat g x s).warnings = s.warnings := rfl
@[simp] theorem State.setThreat_zones (g : Nat) (x : Threat) : (State.setThreat g x s).zones = s.zones := rfl
@[simp] theorem State.setThreat_panel (g : Nat) (x : Threat) : (State.setThreat g x s).panel = s.panel := rfl
@[simp] theorem State.setThreat_line (g : Nat) (x : Threat) : (State.setThreat g x s).line = s.line := rfl
@[simp] theorem State.setThreat_nodes (g : Nat) (x : Threat) : (State.setThreat g x s).nodes = s.nodes := rfl
@[simp] theorem State.setThreat_countingPaused (g : Nat) (x : Threat) : (State.setThreat g x s).countingPaused = s.countingPaused := rfl
@[simp] theorem State.setThreat_host (g : Nat) (x : Threat) : (State.setThreat g x s).host = s.host := rfl
@[simp] theorem State.setThreat_alerts (g : Nat) (x : Threat) : (State.setThreat g x s).alerts = s.alerts := rfl
@[simp] theorem State.setThreat_counters (g : Nat) (x : Threat) : (State.setThreat g x s).counters = s.counters := rfl
@[simp] theorem State.setThreat_store (g : Nat) (x : Threat) : (State.setThreat g x s).store = s.store := rfl
@[simp] theorem State.setThreat_image (g : Nat) (x : Threat) : (State.setThreat g x s).image = s.image := rfl
@[simp] theorem State.setThreat_walkDue (g : Nat) (x : Threat) : (State.setThreat g x s).walkDue = s.walkDue := rfl
@[simp] theorem State.setThreat_freeUses (g : Nat) (x : Threat) : (State.setThreat g x s).freeUses = s.freeUses := rfl

/-! ### setCfg -/

@[simp] theorem State.setCfg_pending (i : Nat) (c : OpeningCfg) : (State.setCfg i c s).pending = s.pending := rfl
@[simp] theorem State.setCfg_phase (i : Nat) (c : OpeningCfg) : (State.setCfg i c s).phase = s.phase := rfl
@[simp] theorem State.setCfg_cause (i : Nat) (c : OpeningCfg) : (State.setCfg i c s).cause = s.cause := rfl
@[simp] theorem State.setCfg_nreset (i : Nat) (c : OpeningCfg) : (State.setCfg i c s).nreset = s.nreset := rfl
@[simp] theorem State.setCfg_svcreq (i : Nat) (c : OpeningCfg) : (State.setCfg i c s).svcreq = s.svcreq := rfl
@[simp] theorem State.setCfg_tenths (i : Nat) (c : OpeningCfg) : (State.setCfg i c s).tenths = s.tenths := rfl
@[simp] theorem State.setCfg_divider (i : Nat) (c : OpeningCfg) : (State.setCfg i c s).divider = s.divider := rfl
@[simp] theorem State.setCfg_due (i : Nat) (c : OpeningCfg) : (State.setCfg i c s).due = s.due := rfl
@[simp] theorem State.setCfg_site (i : Nat) (c : OpeningCfg) : (State.setCfg i c s).site = s.site := rfl
@[simp] theorem State.setCfg_cfgs (i : Nat) (c : OpeningCfg) : (State.setCfg i c s).cfgs = s.cfgs.setIfInBounds i c := rfl
@[simp] theorem State.setCfg_lives (i : Nat) (c : OpeningCfg) : (State.setCfg i c s).lives = s.lives := rfl
@[simp] theorem State.setCfg_groups (i : Nat) (c : OpeningCfg) : (State.setCfg i c s).groups = s.groups := rfl
@[simp] theorem State.setCfg_threats (i : Nat) (c : OpeningCfg) : (State.setCfg i c s).threats = s.threats := rfl
@[simp] theorem State.setCfg_weather (i : Nat) (c : OpeningCfg) : (State.setCfg i c s).weather = s.weather := rfl
@[simp] theorem State.setCfg_jobs (i : Nat) (c : OpeningCfg) : (State.setCfg i c s).jobs = s.jobs := rfl
@[simp] theorem State.setCfg_held (i : Nat) (c : OpeningCfg) : (State.setCfg i c s).held = s.held := rfl
@[simp] theorem State.setCfg_supply (i : Nat) (c : OpeningCfg) : (State.setCfg i c s).supply = s.supply := rfl
@[simp] theorem State.setCfg_reserv (i : Nat) (c : OpeningCfg) : (State.setCfg i c s).reserv = s.reserv := rfl
@[simp] theorem State.setCfg_warnings (i : Nat) (c : OpeningCfg) : (State.setCfg i c s).warnings = s.warnings := rfl
@[simp] theorem State.setCfg_zones (i : Nat) (c : OpeningCfg) : (State.setCfg i c s).zones = s.zones := rfl
@[simp] theorem State.setCfg_panel (i : Nat) (c : OpeningCfg) : (State.setCfg i c s).panel = s.panel := rfl
@[simp] theorem State.setCfg_line (i : Nat) (c : OpeningCfg) : (State.setCfg i c s).line = s.line := rfl
@[simp] theorem State.setCfg_nodes (i : Nat) (c : OpeningCfg) : (State.setCfg i c s).nodes = s.nodes := rfl
@[simp] theorem State.setCfg_countingPaused (i : Nat) (c : OpeningCfg) : (State.setCfg i c s).countingPaused = s.countingPaused := rfl
@[simp] theorem State.setCfg_host (i : Nat) (c : OpeningCfg) : (State.setCfg i c s).host = s.host := rfl
@[simp] theorem State.setCfg_alerts (i : Nat) (c : OpeningCfg) : (State.setCfg i c s).alerts = s.alerts := rfl
@[simp] theorem State.setCfg_counters (i : Nat) (c : OpeningCfg) : (State.setCfg i c s).counters = s.counters := rfl
@[simp] theorem State.setCfg_store (i : Nat) (c : OpeningCfg) : (State.setCfg i c s).store = s.store := rfl
@[simp] theorem State.setCfg_image (i : Nat) (c : OpeningCfg) : (State.setCfg i c s).image = s.image := rfl
@[simp] theorem State.setCfg_walkDue (i : Nat) (c : OpeningCfg) : (State.setCfg i c s).walkDue = s.walkDue := rfl
@[simp] theorem State.setCfg_freeUses (i : Nat) (c : OpeningCfg) : (State.setCfg i c s).freeUses = s.freeUses := rfl

/-! ### triggerWalk -/

@[simp] theorem State.triggerWalk_pending : (State.triggerWalk s).pending = s.pending := rfl
@[simp] theorem State.triggerWalk_phase : (State.triggerWalk s).phase = s.phase := rfl
@[simp] theorem State.triggerWalk_cause : (State.triggerWalk s).cause = s.cause := rfl
@[simp] theorem State.triggerWalk_nreset : (State.triggerWalk s).nreset = s.nreset := rfl
@[simp] theorem State.triggerWalk_svcreq : (State.triggerWalk s).svcreq = s.svcreq := rfl
@[simp] theorem State.triggerWalk_tenths : (State.triggerWalk s).tenths = s.tenths := rfl
@[simp] theorem State.triggerWalk_divider : (State.triggerWalk s).divider = s.divider := rfl
@[simp] theorem State.triggerWalk_due : (State.triggerWalk s).due = s.due := rfl
@[simp] theorem State.triggerWalk_site : (State.triggerWalk s).site = s.site := rfl
@[simp] theorem State.triggerWalk_cfgs : (State.triggerWalk s).cfgs = s.cfgs := rfl
@[simp] theorem State.triggerWalk_lives : (State.triggerWalk s).lives = s.lives := rfl
@[simp] theorem State.triggerWalk_groups : (State.triggerWalk s).groups = s.groups := rfl
@[simp] theorem State.triggerWalk_threats : (State.triggerWalk s).threats = s.threats := rfl
@[simp] theorem State.triggerWalk_weather : (State.triggerWalk s).weather = s.weather := rfl
@[simp] theorem State.triggerWalk_jobs : (State.triggerWalk s).jobs = s.jobs := rfl
@[simp] theorem State.triggerWalk_held : (State.triggerWalk s).held = s.held := rfl
@[simp] theorem State.triggerWalk_supply : (State.triggerWalk s).supply = s.supply := rfl
@[simp] theorem State.triggerWalk_reserv : (State.triggerWalk s).reserv = s.reserv := rfl
@[simp] theorem State.triggerWalk_warnings : (State.triggerWalk s).warnings = s.warnings := rfl
@[simp] theorem State.triggerWalk_zones : (State.triggerWalk s).zones = s.zones := rfl
@[simp] theorem State.triggerWalk_panel : (State.triggerWalk s).panel = s.panel := rfl
@[simp] theorem State.triggerWalk_line : (State.triggerWalk s).line = s.line := rfl
@[simp] theorem State.triggerWalk_nodes : (State.triggerWalk s).nodes = s.nodes := rfl
@[simp] theorem State.triggerWalk_countingPaused : (State.triggerWalk s).countingPaused = s.countingPaused := rfl
@[simp] theorem State.triggerWalk_host : (State.triggerWalk s).host = s.host := rfl
@[simp] theorem State.triggerWalk_alerts : (State.triggerWalk s).alerts = s.alerts := rfl
@[simp] theorem State.triggerWalk_counters : (State.triggerWalk s).counters = s.counters := rfl
@[simp] theorem State.triggerWalk_store : (State.triggerWalk s).store = s.store := rfl
@[simp] theorem State.triggerWalk_image : (State.triggerWalk s).image = s.image := rfl
@[simp] theorem State.triggerWalk_walkDue : (State.triggerWalk s).walkDue = true := rfl
@[simp] theorem State.triggerWalk_freeUses : (State.triggerWalk s).freeUses = s.freeUses := rfl

/-! ### putJob -/

@[simp] theorem State.putJob_pending (j : Job) : (State.putJob j s).pending = s.pending := rfl
@[simp] theorem State.putJob_phase (j : Job) : (State.putJob j s).phase = s.phase := rfl
@[simp] theorem State.putJob_cause (j : Job) : (State.putJob j s).cause = s.cause := rfl
@[simp] theorem State.putJob_nreset (j : Job) : (State.putJob j s).nreset = s.nreset := rfl
@[simp] theorem State.putJob_svcreq (j : Job) : (State.putJob j s).svcreq = s.svcreq := rfl
@[simp] theorem State.putJob_tenths (j : Job) : (State.putJob j s).tenths = s.tenths := rfl
@[simp] theorem State.putJob_divider (j : Job) : (State.putJob j s).divider = s.divider := rfl
@[simp] theorem State.putJob_due (j : Job) : (State.putJob j s).due = s.due := rfl
@[simp] theorem State.putJob_site (j : Job) : (State.putJob j s).site = s.site := rfl
@[simp] theorem State.putJob_cfgs (j : Job) : (State.putJob j s).cfgs = s.cfgs := rfl
@[simp] theorem State.putJob_lives (j : Job) : (State.putJob j s).lives = s.lives := rfl
@[simp] theorem State.putJob_groups (j : Job) : (State.putJob j s).groups = s.groups := rfl
@[simp] theorem State.putJob_threats (j : Job) : (State.putJob j s).threats = s.threats := rfl
@[simp] theorem State.putJob_weather (j : Job) : (State.putJob j s).weather = s.weather := rfl
@[simp] theorem State.putJob_jobs (j : Job) : (State.putJob j s).jobs = insertJob j (s.otherJobs j.opening) := rfl
@[simp] theorem State.putJob_held (j : Job) : (State.putJob j s).held = s.held := rfl
@[simp] theorem State.putJob_supply (j : Job) : (State.putJob j s).supply = s.supply := rfl
@[simp] theorem State.putJob_reserv (j : Job) : (State.putJob j s).reserv = s.reserv := rfl
@[simp] theorem State.putJob_warnings (j : Job) : (State.putJob j s).warnings = s.warnings := rfl
@[simp] theorem State.putJob_zones (j : Job) : (State.putJob j s).zones = s.zones := rfl
@[simp] theorem State.putJob_panel (j : Job) : (State.putJob j s).panel = s.panel := rfl
@[simp] theorem State.putJob_line (j : Job) : (State.putJob j s).line = s.line := rfl
@[simp] theorem State.putJob_nodes (j : Job) : (State.putJob j s).nodes = s.nodes := rfl
@[simp] theorem State.putJob_countingPaused (j : Job) : (State.putJob j s).countingPaused = s.countingPaused := rfl
@[simp] theorem State.putJob_host (j : Job) : (State.putJob j s).host = s.host := rfl
@[simp] theorem State.putJob_alerts (j : Job) : (State.putJob j s).alerts = s.alerts := rfl
@[simp] theorem State.putJob_counters (j : Job) : (State.putJob j s).counters = s.counters := rfl
@[simp] theorem State.putJob_store (j : Job) : (State.putJob j s).store = s.store := rfl
@[simp] theorem State.putJob_image (j : Job) : (State.putJob j s).image = s.image := rfl
@[simp] theorem State.putJob_walkDue (j : Job) : (State.putJob j s).walkDue = s.walkDue := rfl
@[simp] theorem State.putJob_freeUses (j : Job) : (State.putJob j s).freeUses = s.freeUses := rfl

/-! ### dropReservation -/

@[simp] theorem State.dropReservation_pending (i : Nat) : (State.dropReservation i s).pending = s.pending := rfl
@[simp] theorem State.dropReservation_phase (i : Nat) : (State.dropReservation i s).phase = s.phase := rfl
@[simp] theorem State.dropReservation_cause (i : Nat) : (State.dropReservation i s).cause = s.cause := rfl
@[simp] theorem State.dropReservation_nreset (i : Nat) : (State.dropReservation i s).nreset = s.nreset := rfl
@[simp] theorem State.dropReservation_svcreq (i : Nat) : (State.dropReservation i s).svcreq = s.svcreq := rfl
@[simp] theorem State.dropReservation_tenths (i : Nat) : (State.dropReservation i s).tenths = s.tenths := rfl
@[simp] theorem State.dropReservation_divider (i : Nat) : (State.dropReservation i s).divider = s.divider := rfl
@[simp] theorem State.dropReservation_due (i : Nat) : (State.dropReservation i s).due = s.due := rfl
@[simp] theorem State.dropReservation_site (i : Nat) : (State.dropReservation i s).site = s.site := rfl
@[simp] theorem State.dropReservation_cfgs (i : Nat) : (State.dropReservation i s).cfgs = s.cfgs := rfl
@[simp] theorem State.dropReservation_lives (i : Nat) : (State.dropReservation i s).lives = s.lives := rfl
@[simp] theorem State.dropReservation_groups (i : Nat) : (State.dropReservation i s).groups = s.groups := rfl
@[simp] theorem State.dropReservation_threats (i : Nat) : (State.dropReservation i s).threats = s.threats := rfl
@[simp] theorem State.dropReservation_weather (i : Nat) : (State.dropReservation i s).weather = s.weather := rfl
@[simp] theorem State.dropReservation_jobs (i : Nat) : (State.dropReservation i s).jobs = s.jobs := rfl
@[simp] theorem State.dropReservation_held (i : Nat) : (State.dropReservation i s).held = s.held := rfl
@[simp] theorem State.dropReservation_supply (i : Nat) : (State.dropReservation i s).supply = s.supply := rfl
@[simp] theorem State.dropReservation_reserv (i : Nat) : (State.dropReservation i s).reserv = s.reserv.filter (·.opening != i) := rfl
@[simp] theorem State.dropReservation_warnings (i : Nat) : (State.dropReservation i s).warnings = s.warnings := rfl
@[simp] theorem State.dropReservation_zones (i : Nat) : (State.dropReservation i s).zones = s.zones := rfl
@[simp] theorem State.dropReservation_panel (i : Nat) : (State.dropReservation i s).panel = s.panel := rfl
@[simp] theorem State.dropReservation_line (i : Nat) : (State.dropReservation i s).line = s.line := rfl
@[simp] theorem State.dropReservation_nodes (i : Nat) : (State.dropReservation i s).nodes = s.nodes := rfl
@[simp] theorem State.dropReservation_countingPaused (i : Nat) : (State.dropReservation i s).countingPaused = s.countingPaused := rfl
@[simp] theorem State.dropReservation_host (i : Nat) : (State.dropReservation i s).host = s.host := rfl
@[simp] theorem State.dropReservation_alerts (i : Nat) : (State.dropReservation i s).alerts = s.alerts := rfl
@[simp] theorem State.dropReservation_counters (i : Nat) : (State.dropReservation i s).counters = s.counters := rfl
@[simp] theorem State.dropReservation_store (i : Nat) : (State.dropReservation i s).store = s.store := rfl
@[simp] theorem State.dropReservation_image (i : Nat) : (State.dropReservation i s).image = s.image := rfl
@[simp] theorem State.dropReservation_walkDue (i : Nat) : (State.dropReservation i s).walkDue = true := rfl
@[simp] theorem State.dropReservation_freeUses (i : Nat) : (State.dropReservation i s).freeUses = s.freeUses := rfl

/-! ### modReservation -/

@[simp] theorem State.modReservation_pending (i : Nat) (f : Reservation → Reservation) : (State.modReservation i f s).pending = s.pending := rfl
@[simp] theorem State.modReservation_phase (i : Nat) (f : Reservation → Reservation) : (State.modReservation i f s).phase = s.phase := rfl
@[simp] theorem State.modReservation_cause (i : Nat) (f : Reservation → Reservation) : (State.modReservation i f s).cause = s.cause := rfl
@[simp] theorem State.modReservation_nreset (i : Nat) (f : Reservation → Reservation) : (State.modReservation i f s).nreset = s.nreset := rfl
@[simp] theorem State.modReservation_svcreq (i : Nat) (f : Reservation → Reservation) : (State.modReservation i f s).svcreq = s.svcreq := rfl
@[simp] theorem State.modReservation_tenths (i : Nat) (f : Reservation → Reservation) : (State.modReservation i f s).tenths = s.tenths := rfl
@[simp] theorem State.modReservation_divider (i : Nat) (f : Reservation → Reservation) : (State.modReservation i f s).divider = s.divider := rfl
@[simp] theorem State.modReservation_due (i : Nat) (f : Reservation → Reservation) : (State.modReservation i f s).due = s.due := rfl
@[simp] theorem State.modReservation_site (i : Nat) (f : Reservation → Reservation) : (State.modReservation i f s).site = s.site := rfl
@[simp] theorem State.modReservation_cfgs (i : Nat) (f : Reservation → Reservation) : (State.modReservation i f s).cfgs = s.cfgs := rfl
@[simp] theorem State.modReservation_lives (i : Nat) (f : Reservation → Reservation) : (State.modReservation i f s).lives = s.lives := rfl
@[simp] theorem State.modReservation_groups (i : Nat) (f : Reservation → Reservation) : (State.modReservation i f s).groups = s.groups := rfl
@[simp] theorem State.modReservation_threats (i : Nat) (f : Reservation → Reservation) : (State.modReservation i f s).threats = s.threats := rfl
@[simp] theorem State.modReservation_weather (i : Nat) (f : Reservation → Reservation) : (State.modReservation i f s).weather = s.weather := rfl
@[simp] theorem State.modReservation_jobs (i : Nat) (f : Reservation → Reservation) : (State.modReservation i f s).jobs = s.jobs := rfl
@[simp] theorem State.modReservation_held (i : Nat) (f : Reservation → Reservation) : (State.modReservation i f s).held = s.held := rfl
@[simp] theorem State.modReservation_supply (i : Nat) (f : Reservation → Reservation) : (State.modReservation i f s).supply = s.supply := rfl
@[simp] theorem State.modReservation_reserv (i : Nat) (f : Reservation → Reservation) : (State.modReservation i f s).reserv = s.reserv.map fun r => if r.opening = i then f r else r := rfl
@[simp] theorem State.modReservation_warnings (i : Nat) (f : Reservation → Reservation) : (State.modReservation i f s).warnings = s.warnings := rfl
@[simp] theorem State.modReservation_zones (i : Nat) (f : Reservation → Reservation) : (State.modReservation i f s).zones = s.zones := rfl
@[simp] theorem State.modReservation_panel (i : Nat) (f : Reservation → Reservation) : (State.modReservation i f s).panel = s.panel := rfl
@[simp] theorem State.modReservation_line (i : Nat) (f : Reservation → Reservation) : (State.modReservation i f s).line = s.line := rfl
@[simp] theorem State.modReservation_nodes (i : Nat) (f : Reservation → Reservation) : (State.modReservation i f s).nodes = s.nodes := rfl
@[simp] theorem State.modReservation_countingPaused (i : Nat) (f : Reservation → Reservation) : (State.modReservation i f s).countingPaused = s.countingPaused := rfl
@[simp] theorem State.modReservation_host (i : Nat) (f : Reservation → Reservation) : (State.modReservation i f s).host = s.host := rfl
@[simp] theorem State.modReservation_alerts (i : Nat) (f : Reservation → Reservation) : (State.modReservation i f s).alerts = s.alerts := rfl
@[simp] theorem State.modReservation_counters (i : Nat) (f : Reservation → Reservation) : (State.modReservation i f s).counters = s.counters := rfl
@[simp] theorem State.modReservation_store (i : Nat) (f : Reservation → Reservation) : (State.modReservation i f s).store = s.store := rfl
@[simp] theorem State.modReservation_image (i : Nat) (f : Reservation → Reservation) : (State.modReservation i f s).image = s.image := rfl
@[simp] theorem State.modReservation_walkDue (i : Nat) (f : Reservation → Reservation) : (State.modReservation i f s).walkDue = s.walkDue := rfl
@[simp] theorem State.modReservation_freeUses (i : Nat) (f : Reservation → Reservation) : (State.modReservation i f s).freeUses = s.freeUses := rfl

/-! ### reserve -/

@[simp] theorem State.reserve_pending (i : Nat) : (State.reserve i s).pending = s.pending := rfl
@[simp] theorem State.reserve_phase (i : Nat) : (State.reserve i s).phase = s.phase := rfl
@[simp] theorem State.reserve_cause (i : Nat) : (State.reserve i s).cause = s.cause := rfl
@[simp] theorem State.reserve_nreset (i : Nat) : (State.reserve i s).nreset = s.nreset := rfl
@[simp] theorem State.reserve_svcreq (i : Nat) : (State.reserve i s).svcreq = s.svcreq := rfl
@[simp] theorem State.reserve_tenths (i : Nat) : (State.reserve i s).tenths = s.tenths := rfl
@[simp] theorem State.reserve_divider (i : Nat) : (State.reserve i s).divider = s.divider := rfl
@[simp] theorem State.reserve_due (i : Nat) : (State.reserve i s).due = s.due := rfl
@[simp] theorem State.reserve_site (i : Nat) : (State.reserve i s).site = s.site := rfl
@[simp] theorem State.reserve_cfgs (i : Nat) : (State.reserve i s).cfgs = s.cfgs := rfl
@[simp] theorem State.reserve_lives (i : Nat) : (State.reserve i s).lives = s.lives := rfl
@[simp] theorem State.reserve_groups (i : Nat) : (State.reserve i s).groups = s.groups := rfl
@[simp] theorem State.reserve_threats (i : Nat) : (State.reserve i s).threats = s.threats := rfl
@[simp] theorem State.reserve_weather (i : Nat) : (State.reserve i s).weather = s.weather := rfl
@[simp] theorem State.reserve_jobs (i : Nat) : (State.reserve i s).jobs = s.jobs := rfl
@[simp] theorem State.reserve_held (i : Nat) : (State.reserve i s).held = s.held := rfl
@[simp] theorem State.reserve_supply (i : Nat) : (State.reserve i s).supply = s.supply := rfl
@[simp] theorem State.reserve_reserv (i : Nat) : (State.reserve i s).reserv = insertReservation ⟨i, (s.cfg i).inrush, .inrushWait, false⟩ s.reserv := rfl
@[simp] theorem State.reserve_warnings (i : Nat) : (State.reserve i s).warnings = s.warnings := rfl
@[simp] theorem State.reserve_zones (i : Nat) : (State.reserve i s).zones = s.zones := rfl
@[simp] theorem State.reserve_panel (i : Nat) : (State.reserve i s).panel = s.panel := rfl
@[simp] theorem State.reserve_line (i : Nat) : (State.reserve i s).line = s.line := rfl
@[simp] theorem State.reserve_nodes (i : Nat) : (State.reserve i s).nodes = s.nodes := rfl
@[simp] theorem State.reserve_countingPaused (i : Nat) : (State.reserve i s).countingPaused = s.countingPaused := rfl
@[simp] theorem State.reserve_host (i : Nat) : (State.reserve i s).host = s.host := rfl
@[simp] theorem State.reserve_alerts (i : Nat) : (State.reserve i s).alerts = s.alerts := rfl
@[simp] theorem State.reserve_counters (i : Nat) : (State.reserve i s).counters = s.counters := rfl
@[simp] theorem State.reserve_store (i : Nat) : (State.reserve i s).store = s.store := rfl
@[simp] theorem State.reserve_image (i : Nat) : (State.reserve i s).image = s.image := rfl
@[simp] theorem State.reserve_walkDue (i : Nat) : (State.reserve i s).walkDue = s.walkDue := rfl
@[simp] theorem State.reserve_freeUses (i : Nat) : (State.reserve i s).freeUses = s.freeUses := rfl

/-! ### bump -/

@[simp] theorem State.bump_pending (c : Counter) : (State.bump c s).pending = s.pending := rfl
@[simp] theorem State.bump_phase (c : Counter) : (State.bump c s).phase = s.phase := rfl
@[simp] theorem State.bump_cause (c : Counter) : (State.bump c s).cause = s.cause := rfl
@[simp] theorem State.bump_nreset (c : Counter) : (State.bump c s).nreset = s.nreset := rfl
@[simp] theorem State.bump_svcreq (c : Counter) : (State.bump c s).svcreq = s.svcreq := rfl
@[simp] theorem State.bump_tenths (c : Counter) : (State.bump c s).tenths = s.tenths := rfl
@[simp] theorem State.bump_divider (c : Counter) : (State.bump c s).divider = s.divider := rfl
@[simp] theorem State.bump_due (c : Counter) : (State.bump c s).due = s.due := rfl
@[simp] theorem State.bump_site (c : Counter) : (State.bump c s).site = s.site := rfl
@[simp] theorem State.bump_cfgs (c : Counter) : (State.bump c s).cfgs = s.cfgs := rfl
@[simp] theorem State.bump_lives (c : Counter) : (State.bump c s).lives = s.lives := rfl
@[simp] theorem State.bump_groups (c : Counter) : (State.bump c s).groups = s.groups := rfl
@[simp] theorem State.bump_threats (c : Counter) : (State.bump c s).threats = s.threats := rfl
@[simp] theorem State.bump_weather (c : Counter) : (State.bump c s).weather = s.weather := rfl
@[simp] theorem State.bump_jobs (c : Counter) : (State.bump c s).jobs = s.jobs := rfl
@[simp] theorem State.bump_held (c : Counter) : (State.bump c s).held = s.held := rfl
@[simp] theorem State.bump_supply (c : Counter) : (State.bump c s).supply = s.supply := rfl
@[simp] theorem State.bump_reserv (c : Counter) : (State.bump c s).reserv = s.reserv := rfl
@[simp] theorem State.bump_warnings (c : Counter) : (State.bump c s).warnings = s.warnings := rfl
@[simp] theorem State.bump_zones (c : Counter) : (State.bump c s).zones = s.zones := rfl
@[simp] theorem State.bump_panel (c : Counter) : (State.bump c s).panel = s.panel := rfl
@[simp] theorem State.bump_line (c : Counter) : (State.bump c s).line = s.line := rfl
@[simp] theorem State.bump_nodes (c : Counter) : (State.bump c s).nodes = s.nodes := rfl
@[simp] theorem State.bump_countingPaused (c : Counter) : (State.bump c s).countingPaused = s.countingPaused := rfl
@[simp] theorem State.bump_host (c : Counter) : (State.bump c s).host = s.host := rfl
@[simp] theorem State.bump_alerts (c : Counter) : (State.bump c s).alerts = s.alerts := rfl
@[simp] theorem State.bump_counters (c : Counter) : (State.bump c s).counters = s.counters.setIfInBounds c.index (min (s.counter c + 1) 65535) := rfl
@[simp] theorem State.bump_store (c : Counter) : (State.bump c s).store = s.store := rfl
@[simp] theorem State.bump_image (c : Counter) : (State.bump c s).image = s.image := rfl
@[simp] theorem State.bump_walkDue (c : Counter) : (State.bump c s).walkDue = s.walkDue := rfl
@[simp] theorem State.bump_freeUses (c : Counter) : (State.bump c s).freeUses = s.freeUses := rfl

/-! ### clearAlert -/

@[simp] theorem State.clearAlert_pending (f : AlertFlag) : (State.clearAlert f s).pending = s.pending := rfl
@[simp] theorem State.clearAlert_phase (f : AlertFlag) : (State.clearAlert f s).phase = s.phase := rfl
@[simp] theorem State.clearAlert_cause (f : AlertFlag) : (State.clearAlert f s).cause = s.cause := rfl
@[simp] theorem State.clearAlert_nreset (f : AlertFlag) : (State.clearAlert f s).nreset = s.nreset := rfl
@[simp] theorem State.clearAlert_svcreq (f : AlertFlag) : (State.clearAlert f s).svcreq = s.svcreq := rfl
@[simp] theorem State.clearAlert_tenths (f : AlertFlag) : (State.clearAlert f s).tenths = s.tenths := rfl
@[simp] theorem State.clearAlert_divider (f : AlertFlag) : (State.clearAlert f s).divider = s.divider := rfl
@[simp] theorem State.clearAlert_due (f : AlertFlag) : (State.clearAlert f s).due = s.due := rfl
@[simp] theorem State.clearAlert_site (f : AlertFlag) : (State.clearAlert f s).site = s.site := rfl
@[simp] theorem State.clearAlert_cfgs (f : AlertFlag) : (State.clearAlert f s).cfgs = s.cfgs := rfl
@[simp] theorem State.clearAlert_lives (f : AlertFlag) : (State.clearAlert f s).lives = s.lives := rfl
@[simp] theorem State.clearAlert_groups (f : AlertFlag) : (State.clearAlert f s).groups = s.groups := rfl
@[simp] theorem State.clearAlert_threats (f : AlertFlag) : (State.clearAlert f s).threats = s.threats := rfl
@[simp] theorem State.clearAlert_weather (f : AlertFlag) : (State.clearAlert f s).weather = s.weather := rfl
@[simp] theorem State.clearAlert_jobs (f : AlertFlag) : (State.clearAlert f s).jobs = s.jobs := rfl
@[simp] theorem State.clearAlert_held (f : AlertFlag) : (State.clearAlert f s).held = s.held := rfl
@[simp] theorem State.clearAlert_supply (f : AlertFlag) : (State.clearAlert f s).supply = s.supply := rfl
@[simp] theorem State.clearAlert_reserv (f : AlertFlag) : (State.clearAlert f s).reserv = s.reserv := rfl
@[simp] theorem State.clearAlert_warnings (f : AlertFlag) : (State.clearAlert f s).warnings = s.warnings := rfl
@[simp] theorem State.clearAlert_zones (f : AlertFlag) : (State.clearAlert f s).zones = s.zones := rfl
@[simp] theorem State.clearAlert_panel (f : AlertFlag) : (State.clearAlert f s).panel = s.panel := rfl
@[simp] theorem State.clearAlert_line (f : AlertFlag) : (State.clearAlert f s).line = s.line := rfl
@[simp] theorem State.clearAlert_nodes (f : AlertFlag) : (State.clearAlert f s).nodes = s.nodes := rfl
@[simp] theorem State.clearAlert_countingPaused (f : AlertFlag) : (State.clearAlert f s).countingPaused = s.countingPaused := rfl
@[simp] theorem State.clearAlert_host (f : AlertFlag) : (State.clearAlert f s).host = s.host := rfl
@[simp] theorem State.clearAlert_alerts (f : AlertFlag) : (State.clearAlert f s).alerts = s.alerts &&& ~~~ BitVec.twoPow 11 f.number := rfl
@[simp] theorem State.clearAlert_counters (f : AlertFlag) : (State.clearAlert f s).counters = s.counters := rfl
@[simp] theorem State.clearAlert_store (f : AlertFlag) : (State.clearAlert f s).store = s.store := rfl
@[simp] theorem State.clearAlert_image (f : AlertFlag) : (State.clearAlert f s).image = s.image := rfl
@[simp] theorem State.clearAlert_walkDue (f : AlertFlag) : (State.clearAlert f s).walkDue = s.walkDue := rfl
@[simp] theorem State.clearAlert_freeUses (f : AlertFlag) : (State.clearAlert f s).freeUses = s.freeUses := rfl

/-! ### acknowledge -/

@[simp] theorem State.acknowledge_pending (n : Nat) : (State.acknowledge n s).pending = s.pending := rfl
@[simp] theorem State.acknowledge_phase (n : Nat) : (State.acknowledge n s).phase = s.phase := rfl
@[simp] theorem State.acknowledge_cause (n : Nat) : (State.acknowledge n s).cause = s.cause := rfl
@[simp] theorem State.acknowledge_nreset (n : Nat) : (State.acknowledge n s).nreset = s.nreset := rfl
@[simp] theorem State.acknowledge_svcreq (n : Nat) : (State.acknowledge n s).svcreq = s.svcreq := rfl
@[simp] theorem State.acknowledge_tenths (n : Nat) : (State.acknowledge n s).tenths = s.tenths := rfl
@[simp] theorem State.acknowledge_divider (n : Nat) : (State.acknowledge n s).divider = s.divider := rfl
@[simp] theorem State.acknowledge_due (n : Nat) : (State.acknowledge n s).due = s.due := rfl
@[simp] theorem State.acknowledge_site (n : Nat) : (State.acknowledge n s).site = s.site := rfl
@[simp] theorem State.acknowledge_cfgs (n : Nat) : (State.acknowledge n s).cfgs = s.cfgs := rfl
@[simp] theorem State.acknowledge_lives (n : Nat) : (State.acknowledge n s).lives = s.lives := rfl
@[simp] theorem State.acknowledge_groups (n : Nat) : (State.acknowledge n s).groups = s.groups := rfl
@[simp] theorem State.acknowledge_threats (n : Nat) : (State.acknowledge n s).threats = s.threats := rfl
@[simp] theorem State.acknowledge_weather (n : Nat) : (State.acknowledge n s).weather = s.weather := rfl
@[simp] theorem State.acknowledge_jobs (n : Nat) : (State.acknowledge n s).jobs = s.jobs := rfl
@[simp] theorem State.acknowledge_held (n : Nat) : (State.acknowledge n s).held = s.held := rfl
@[simp] theorem State.acknowledge_supply (n : Nat) : (State.acknowledge n s).supply = s.supply := rfl
@[simp] theorem State.acknowledge_reserv (n : Nat) : (State.acknowledge n s).reserv = s.reserv := rfl
@[simp] theorem State.acknowledge_warnings (n : Nat) : (State.acknowledge n s).warnings = s.warnings := rfl
@[simp] theorem State.acknowledge_zones (n : Nat) : (State.acknowledge n s).zones = s.zones := rfl
@[simp] theorem State.acknowledge_panel (n : Nat) : (State.acknowledge n s).panel = s.panel := rfl
@[simp] theorem State.acknowledge_line (n : Nat) : (State.acknowledge n s).line = s.line := rfl
@[simp] theorem State.acknowledge_nodes (n : Nat) : (State.acknowledge n s).nodes = s.nodes := rfl
@[simp] theorem State.acknowledge_countingPaused (n : Nat) : (State.acknowledge n s).countingPaused = s.countingPaused := rfl
@[simp] theorem State.acknowledge_host (n : Nat) : (State.acknowledge n s).host = s.host := rfl
@[simp] theorem State.acknowledge_alerts (n : Nat) : (State.acknowledge n s).alerts = s.alerts &&& ~~~ (BitVec.ofNat 11 n &&& eventFlags) := rfl
@[simp] theorem State.acknowledge_counters (n : Nat) : (State.acknowledge n s).counters = s.counters := rfl
@[simp] theorem State.acknowledge_store (n : Nat) : (State.acknowledge n s).store = s.store := rfl
@[simp] theorem State.acknowledge_image (n : Nat) : (State.acknowledge n s).image = s.image := rfl
@[simp] theorem State.acknowledge_walkDue (n : Nat) : (State.acknowledge n s).walkDue = s.walkDue := rfl
@[simp] theorem State.acknowledge_freeUses (n : Nat) : (State.acknowledge n s).freeUses = s.freeUses := rfl

/-! ### evalZones -/

@[simp] theorem State.evalZones_pending : (State.evalZones s).pending = s.pending := rfl
@[simp] theorem State.evalZones_phase : (State.evalZones s).phase = s.phase := rfl
@[simp] theorem State.evalZones_cause : (State.evalZones s).cause = s.cause := rfl
@[simp] theorem State.evalZones_nreset : (State.evalZones s).nreset = s.nreset := rfl
@[simp] theorem State.evalZones_svcreq : (State.evalZones s).svcreq = s.svcreq := rfl
@[simp] theorem State.evalZones_tenths : (State.evalZones s).tenths = s.tenths := rfl
@[simp] theorem State.evalZones_divider : (State.evalZones s).divider = s.divider := rfl
@[simp] theorem State.evalZones_due : (State.evalZones s).due = s.due := rfl
@[simp] theorem State.evalZones_site : (State.evalZones s).site = s.site := rfl
@[simp] theorem State.evalZones_cfgs : (State.evalZones s).cfgs = s.cfgs := rfl
@[simp] theorem State.evalZones_lives : (State.evalZones s).lives = s.lives := rfl
@[simp] theorem State.evalZones_groups : (State.evalZones s).groups = s.groups := rfl
@[simp] theorem State.evalZones_threats : (State.evalZones s).threats = s.threats := rfl
@[simp] theorem State.evalZones_weather : (State.evalZones s).weather = s.weather := rfl
@[simp] theorem State.evalZones_jobs : (State.evalZones s).jobs = s.jobs := rfl
@[simp] theorem State.evalZones_held : (State.evalZones s).held = s.held := rfl
@[simp] theorem State.evalZones_supply : (State.evalZones s).supply = s.supply := rfl
@[simp] theorem State.evalZones_reserv : (State.evalZones s).reserv = s.reserv := rfl
@[simp] theorem State.evalZones_warnings : (State.evalZones s).warnings = s.warnings := rfl
@[simp] theorem State.evalZones_zones : (State.evalZones s).zones = #v[s.followed 0, s.followed 1, s.followed 2, s.followed 3] := rfl
@[simp] theorem State.evalZones_panel : (State.evalZones s).panel = s.panel := rfl
@[simp] theorem State.evalZones_line : (State.evalZones s).line = s.line := rfl
@[simp] theorem State.evalZones_nodes : (State.evalZones s).nodes = s.nodes := rfl
@[simp] theorem State.evalZones_countingPaused : (State.evalZones s).countingPaused = s.countingPaused := rfl
@[simp] theorem State.evalZones_host : (State.evalZones s).host = s.host := rfl
@[simp] theorem State.evalZones_alerts : (State.evalZones s).alerts = s.alerts := rfl
@[simp] theorem State.evalZones_counters : (State.evalZones s).counters = s.counters := rfl
@[simp] theorem State.evalZones_store : (State.evalZones s).store = s.store := rfl
@[simp] theorem State.evalZones_image : (State.evalZones s).image = s.image := rfl
@[simp] theorem State.evalZones_walkDue : (State.evalZones s).walkDue = s.walkDue := rfl
@[simp] theorem State.evalZones_freeUses : (State.evalZones s).freeUses = s.freeUses := rfl

/-! ### removeWarning -/

@[simp] theorem State.removeWarning_pending (i : Nat) : (State.removeWarning i s).pending = s.pending := rfl
@[simp] theorem State.removeWarning_phase (i : Nat) : (State.removeWarning i s).phase = s.phase := rfl
@[simp] theorem State.removeWarning_cause (i : Nat) : (State.removeWarning i s).cause = s.cause := rfl
@[simp] theorem State.removeWarning_nreset (i : Nat) : (State.removeWarning i s).nreset = s.nreset := rfl
@[simp] theorem State.removeWarning_svcreq (i : Nat) : (State.removeWarning i s).svcreq = s.svcreq := rfl
@[simp] theorem State.removeWarning_tenths (i : Nat) : (State.removeWarning i s).tenths = s.tenths := rfl
@[simp] theorem State.removeWarning_divider (i : Nat) : (State.removeWarning i s).divider = s.divider := rfl
@[simp] theorem State.removeWarning_due (i : Nat) : (State.removeWarning i s).due = s.due := rfl
@[simp] theorem State.removeWarning_site (i : Nat) : (State.removeWarning i s).site = s.site := rfl
@[simp] theorem State.removeWarning_cfgs (i : Nat) : (State.removeWarning i s).cfgs = s.cfgs := rfl
@[simp] theorem State.removeWarning_lives (i : Nat) : (State.removeWarning i s).lives = s.lives := rfl
@[simp] theorem State.removeWarning_groups (i : Nat) : (State.removeWarning i s).groups = s.groups := rfl
@[simp] theorem State.removeWarning_threats (i : Nat) : (State.removeWarning i s).threats = s.threats := rfl
@[simp] theorem State.removeWarning_weather (i : Nat) : (State.removeWarning i s).weather = s.weather := rfl
@[simp] theorem State.removeWarning_jobs (i : Nat) : (State.removeWarning i s).jobs = s.jobs := rfl
@[simp] theorem State.removeWarning_held (i : Nat) : (State.removeWarning i s).held = s.held := rfl
@[simp] theorem State.removeWarning_supply (i : Nat) : (State.removeWarning i s).supply = s.supply := rfl
@[simp] theorem State.removeWarning_reserv (i : Nat) : (State.removeWarning i s).reserv = s.reserv := rfl
@[simp] theorem State.removeWarning_warnings (i : Nat) : (State.removeWarning i s).warnings = s.warnings.filter (·.opening != i) := rfl
@[simp] theorem State.removeWarning_panel (i : Nat) : (State.removeWarning i s).panel = s.panel := rfl
@[simp] theorem State.removeWarning_line (i : Nat) : (State.removeWarning i s).line = s.line := rfl
@[simp] theorem State.removeWarning_nodes (i : Nat) : (State.removeWarning i s).nodes = s.nodes := rfl
@[simp] theorem State.removeWarning_countingPaused (i : Nat) : (State.removeWarning i s).countingPaused = s.countingPaused := rfl
@[simp] theorem State.removeWarning_host (i : Nat) : (State.removeWarning i s).host = s.host := rfl
@[simp] theorem State.removeWarning_alerts (i : Nat) : (State.removeWarning i s).alerts = s.alerts := rfl
@[simp] theorem State.removeWarning_counters (i : Nat) : (State.removeWarning i s).counters = s.counters := rfl
@[simp] theorem State.removeWarning_store (i : Nat) : (State.removeWarning i s).store = s.store := rfl
@[simp] theorem State.removeWarning_image (i : Nat) : (State.removeWarning i s).image = s.image := rfl
@[simp] theorem State.removeWarning_walkDue (i : Nat) : (State.removeWarning i s).walkDue = s.walkDue := rfl
@[simp] theorem State.removeWarning_freeUses (i : Nat) : (State.removeWarning i s).freeUses = s.freeUses := rfl

/-! ### beginWarning -/

@[simp] theorem State.beginWarning_pending (i : Nat) : (State.beginWarning i s).pending = s.pending := rfl
@[simp] theorem State.beginWarning_phase (i : Nat) : (State.beginWarning i s).phase = s.phase := rfl
@[simp] theorem State.beginWarning_cause (i : Nat) : (State.beginWarning i s).cause = s.cause := rfl
@[simp] theorem State.beginWarning_nreset (i : Nat) : (State.beginWarning i s).nreset = s.nreset := rfl
@[simp] theorem State.beginWarning_svcreq (i : Nat) : (State.beginWarning i s).svcreq = s.svcreq := rfl
@[simp] theorem State.beginWarning_tenths (i : Nat) : (State.beginWarning i s).tenths = s.tenths := rfl
@[simp] theorem State.beginWarning_divider (i : Nat) : (State.beginWarning i s).divider = s.divider := rfl
@[simp] theorem State.beginWarning_due (i : Nat) : (State.beginWarning i s).due = s.due := rfl
@[simp] theorem State.beginWarning_site (i : Nat) : (State.beginWarning i s).site = s.site := rfl
@[simp] theorem State.beginWarning_cfgs (i : Nat) : (State.beginWarning i s).cfgs = s.cfgs := rfl
@[simp] theorem State.beginWarning_lives (i : Nat) : (State.beginWarning i s).lives = s.lives := rfl
@[simp] theorem State.beginWarning_groups (i : Nat) : (State.beginWarning i s).groups = s.groups := rfl
@[simp] theorem State.beginWarning_threats (i : Nat) : (State.beginWarning i s).threats = s.threats := rfl
@[simp] theorem State.beginWarning_weather (i : Nat) : (State.beginWarning i s).weather = s.weather := rfl
@[simp] theorem State.beginWarning_jobs (i : Nat) : (State.beginWarning i s).jobs = s.jobs := rfl
@[simp] theorem State.beginWarning_held (i : Nat) : (State.beginWarning i s).held = s.held := rfl
@[simp] theorem State.beginWarning_supply (i : Nat) : (State.beginWarning i s).supply = s.supply := rfl
@[simp] theorem State.beginWarning_reserv (i : Nat) : (State.beginWarning i s).reserv = s.reserv := rfl
@[simp] theorem State.beginWarning_panel (i : Nat) : (State.beginWarning i s).panel = s.panel := rfl
@[simp] theorem State.beginWarning_line (i : Nat) : (State.beginWarning i s).line = s.line := rfl
@[simp] theorem State.beginWarning_nodes (i : Nat) : (State.beginWarning i s).nodes = s.nodes := rfl
@[simp] theorem State.beginWarning_countingPaused (i : Nat) : (State.beginWarning i s).countingPaused = s.countingPaused := rfl
@[simp] theorem State.beginWarning_host (i : Nat) : (State.beginWarning i s).host = s.host := rfl
@[simp] theorem State.beginWarning_alerts (i : Nat) : (State.beginWarning i s).alerts = s.alerts := rfl
@[simp] theorem State.beginWarning_counters (i : Nat) : (State.beginWarning i s).counters = s.counters := rfl
@[simp] theorem State.beginWarning_store (i : Nat) : (State.beginWarning i s).store = s.store := rfl
@[simp] theorem State.beginWarning_image (i : Nat) : (State.beginWarning i s).image = s.image := rfl
@[simp] theorem State.beginWarning_walkDue (i : Nat) : (State.beginWarning i s).walkDue = s.walkDue := rfl
@[simp] theorem State.beginWarning_freeUses (i : Nat) : (State.beginWarning i s).freeUses = s.freeUses := rfl

/-! ### setForecasts -/

@[simp] theorem State.setForecasts_pending (l : List Forecast) : (State.setForecasts l s).pending = s.pending := rfl
@[simp] theorem State.setForecasts_phase (l : List Forecast) : (State.setForecasts l s).phase = s.phase := rfl
@[simp] theorem State.setForecasts_cause (l : List Forecast) : (State.setForecasts l s).cause = s.cause := rfl
@[simp] theorem State.setForecasts_nreset (l : List Forecast) : (State.setForecasts l s).nreset = s.nreset := rfl
@[simp] theorem State.setForecasts_svcreq (l : List Forecast) : (State.setForecasts l s).svcreq = s.svcreq := rfl
@[simp] theorem State.setForecasts_tenths (l : List Forecast) : (State.setForecasts l s).tenths = s.tenths := rfl
@[simp] theorem State.setForecasts_divider (l : List Forecast) : (State.setForecasts l s).divider = s.divider := rfl
@[simp] theorem State.setForecasts_due (l : List Forecast) : (State.setForecasts l s).due = s.due := rfl
@[simp] theorem State.setForecasts_site (l : List Forecast) : (State.setForecasts l s).site = s.site := rfl
@[simp] theorem State.setForecasts_cfgs (l : List Forecast) : (State.setForecasts l s).cfgs = s.cfgs := rfl
@[simp] theorem State.setForecasts_lives (l : List Forecast) : (State.setForecasts l s).lives = s.lives := rfl
@[simp] theorem State.setForecasts_groups (l : List Forecast) : (State.setForecasts l s).groups = s.groups := rfl
@[simp] theorem State.setForecasts_threats (l : List Forecast) : (State.setForecasts l s).threats = s.threats := rfl
@[simp] theorem State.setForecasts_weather (l : List Forecast) : (State.setForecasts l s).weather = { s.weather with forecasts := l } := rfl
@[simp] theorem State.setForecasts_jobs (l : List Forecast) : (State.setForecasts l s).jobs = s.jobs := rfl
@[simp] theorem State.setForecasts_held (l : List Forecast) : (State.setForecasts l s).held = s.held := rfl
@[simp] theorem State.setForecasts_supply (l : List Forecast) : (State.setForecasts l s).supply = s.supply := rfl
@[simp] theorem State.setForecasts_reserv (l : List Forecast) : (State.setForecasts l s).reserv = s.reserv := rfl
@[simp] theorem State.setForecasts_warnings (l : List Forecast) : (State.setForecasts l s).warnings = s.warnings := rfl
@[simp] theorem State.setForecasts_zones (l : List Forecast) : (State.setForecasts l s).zones = s.zones := rfl
@[simp] theorem State.setForecasts_panel (l : List Forecast) : (State.setForecasts l s).panel = s.panel := rfl
@[simp] theorem State.setForecasts_line (l : List Forecast) : (State.setForecasts l s).line = s.line := rfl
@[simp] theorem State.setForecasts_nodes (l : List Forecast) : (State.setForecasts l s).nodes = s.nodes := rfl
@[simp] theorem State.setForecasts_countingPaused (l : List Forecast) : (State.setForecasts l s).countingPaused = s.countingPaused := rfl
@[simp] theorem State.setForecasts_host (l : List Forecast) : (State.setForecasts l s).host = s.host := rfl
@[simp] theorem State.setForecasts_alerts (l : List Forecast) : (State.setForecasts l s).alerts = s.alerts := rfl
@[simp] theorem State.setForecasts_counters (l : List Forecast) : (State.setForecasts l s).counters = s.counters := rfl
@[simp] theorem State.setForecasts_store (l : List Forecast) : (State.setForecasts l s).store = s.store := rfl
@[simp] theorem State.setForecasts_image (l : List Forecast) : (State.setForecasts l s).image = s.image := rfl
@[simp] theorem State.setForecasts_walkDue (l : List Forecast) : (State.setForecasts l s).walkDue = s.walkDue := rfl
@[simp] theorem State.setForecasts_freeUses (l : List Forecast) : (State.setForecasts l s).freeUses = s.freeUses := rfl

/-! ### addHold -/

@[simp] theorem State.addHold_pending (i minutes : Nat) : (State.addHold i minutes s).pending = s.pending := rfl
@[simp] theorem State.addHold_phase (i minutes : Nat) : (State.addHold i minutes s).phase = s.phase := rfl
@[simp] theorem State.addHold_cause (i minutes : Nat) : (State.addHold i minutes s).cause = s.cause := rfl
@[simp] theorem State.addHold_nreset (i minutes : Nat) : (State.addHold i minutes s).nreset = s.nreset := rfl
@[simp] theorem State.addHold_svcreq (i minutes : Nat) : (State.addHold i minutes s).svcreq = s.svcreq := rfl
@[simp] theorem State.addHold_tenths (i minutes : Nat) : (State.addHold i minutes s).tenths = s.tenths := rfl
@[simp] theorem State.addHold_divider (i minutes : Nat) : (State.addHold i minutes s).divider = s.divider := rfl
@[simp] theorem State.addHold_due (i minutes : Nat) : (State.addHold i minutes s).due = s.due := rfl
@[simp] theorem State.addHold_site (i minutes : Nat) : (State.addHold i minutes s).site = s.site := rfl
@[simp] theorem State.addHold_cfgs (i minutes : Nat) : (State.addHold i minutes s).cfgs = s.cfgs := rfl
@[simp] theorem State.addHold_lives (i minutes : Nat) : (State.addHold i minutes s).lives = s.lives := rfl
@[simp] theorem State.addHold_groups (i minutes : Nat) : (State.addHold i minutes s).groups = s.groups := rfl
@[simp] theorem State.addHold_threats (i minutes : Nat) : (State.addHold i minutes s).threats = s.threats := rfl
@[simp] theorem State.addHold_weather (i minutes : Nat) : (State.addHold i minutes s).weather = s.weather := rfl
@[simp] theorem State.addHold_jobs (i minutes : Nat) : (State.addHold i minutes s).jobs = s.jobs := rfl
@[simp] theorem State.addHold_held (i minutes : Nat) : (State.addHold i minutes s).held = insertHeld ⟨i, s.T + 60 * minutes⟩ (s.held.filter (·.opening != i)) := rfl
@[simp] theorem State.addHold_supply (i minutes : Nat) : (State.addHold i minutes s).supply = s.supply := rfl
@[simp] theorem State.addHold_reserv (i minutes : Nat) : (State.addHold i minutes s).reserv = s.reserv := rfl
@[simp] theorem State.addHold_warnings (i minutes : Nat) : (State.addHold i minutes s).warnings = s.warnings := rfl
@[simp] theorem State.addHold_zones (i minutes : Nat) : (State.addHold i minutes s).zones = s.zones := rfl
@[simp] theorem State.addHold_panel (i minutes : Nat) : (State.addHold i minutes s).panel = s.panel := rfl
@[simp] theorem State.addHold_line (i minutes : Nat) : (State.addHold i minutes s).line = s.line := rfl
@[simp] theorem State.addHold_nodes (i minutes : Nat) : (State.addHold i minutes s).nodes = s.nodes := rfl
@[simp] theorem State.addHold_countingPaused (i minutes : Nat) : (State.addHold i minutes s).countingPaused = s.countingPaused := rfl
@[simp] theorem State.addHold_host (i minutes : Nat) : (State.addHold i minutes s).host = s.host := rfl
@[simp] theorem State.addHold_alerts (i minutes : Nat) : (State.addHold i minutes s).alerts = s.alerts := rfl
@[simp] theorem State.addHold_counters (i minutes : Nat) : (State.addHold i minutes s).counters = s.counters := rfl
@[simp] theorem State.addHold_store (i minutes : Nat) : (State.addHold i minutes s).store = s.store := rfl
@[simp] theorem State.addHold_image (i minutes : Nat) : (State.addHold i minutes s).image = s.image := rfl
@[simp] theorem State.addHold_walkDue (i minutes : Nat) : (State.addHold i minutes s).walkDue = s.walkDue := rfl
@[simp] theorem State.addHold_freeUses (i minutes : Nat) : (State.addHold i minutes s).freeUses = s.freeUses := rfl

/-! ### modHost -/

@[simp] theorem State.modHost_pending (f : HostLink → HostLink) : (State.modHost f s).pending = s.pending := rfl
@[simp] theorem State.modHost_phase (f : HostLink → HostLink) : (State.modHost f s).phase = s.phase := rfl
@[simp] theorem State.modHost_cause (f : HostLink → HostLink) : (State.modHost f s).cause = s.cause := rfl
@[simp] theorem State.modHost_nreset (f : HostLink → HostLink) : (State.modHost f s).nreset = s.nreset := rfl
@[simp] theorem State.modHost_svcreq (f : HostLink → HostLink) : (State.modHost f s).svcreq = s.svcreq := rfl
@[simp] theorem State.modHost_tenths (f : HostLink → HostLink) : (State.modHost f s).tenths = s.tenths := rfl
@[simp] theorem State.modHost_divider (f : HostLink → HostLink) : (State.modHost f s).divider = s.divider := rfl
@[simp] theorem State.modHost_due (f : HostLink → HostLink) : (State.modHost f s).due = s.due := rfl
@[simp] theorem State.modHost_site (f : HostLink → HostLink) : (State.modHost f s).site = s.site := rfl
@[simp] theorem State.modHost_cfgs (f : HostLink → HostLink) : (State.modHost f s).cfgs = s.cfgs := rfl
@[simp] theorem State.modHost_lives (f : HostLink → HostLink) : (State.modHost f s).lives = s.lives := rfl
@[simp] theorem State.modHost_groups (f : HostLink → HostLink) : (State.modHost f s).groups = s.groups := rfl
@[simp] theorem State.modHost_threats (f : HostLink → HostLink) : (State.modHost f s).threats = s.threats := rfl
@[simp] theorem State.modHost_weather (f : HostLink → HostLink) : (State.modHost f s).weather = s.weather := rfl
@[simp] theorem State.modHost_jobs (f : HostLink → HostLink) : (State.modHost f s).jobs = s.jobs := rfl
@[simp] theorem State.modHost_held (f : HostLink → HostLink) : (State.modHost f s).held = s.held := rfl
@[simp] theorem State.modHost_supply (f : HostLink → HostLink) : (State.modHost f s).supply = s.supply := rfl
@[simp] theorem State.modHost_reserv (f : HostLink → HostLink) : (State.modHost f s).reserv = s.reserv := rfl
@[simp] theorem State.modHost_warnings (f : HostLink → HostLink) : (State.modHost f s).warnings = s.warnings := rfl
@[simp] theorem State.modHost_zones (f : HostLink → HostLink) : (State.modHost f s).zones = s.zones := rfl
@[simp] theorem State.modHost_panel (f : HostLink → HostLink) : (State.modHost f s).panel = s.panel := rfl
@[simp] theorem State.modHost_line (f : HostLink → HostLink) : (State.modHost f s).line = s.line := rfl
@[simp] theorem State.modHost_nodes (f : HostLink → HostLink) : (State.modHost f s).nodes = s.nodes := rfl
@[simp] theorem State.modHost_countingPaused (f : HostLink → HostLink) : (State.modHost f s).countingPaused = s.countingPaused := rfl
@[simp] theorem State.modHost_host (f : HostLink → HostLink) : (State.modHost f s).host = f s.host := rfl
@[simp] theorem State.modHost_alerts (f : HostLink → HostLink) : (State.modHost f s).alerts = s.alerts := rfl
@[simp] theorem State.modHost_counters (f : HostLink → HostLink) : (State.modHost f s).counters = s.counters := rfl
@[simp] theorem State.modHost_store (f : HostLink → HostLink) : (State.modHost f s).store = s.store := rfl
@[simp] theorem State.modHost_image (f : HostLink → HostLink) : (State.modHost f s).image = s.image := rfl
@[simp] theorem State.modHost_walkDue (f : HostLink → HostLink) : (State.modHost f s).walkDue = s.walkDue := rfl
@[simp] theorem State.modHost_freeUses (f : HostLink → HostLink) : (State.modHost f s).freeUses = s.freeUses := rfl

/-! ### modImage -/

@[simp] theorem State.modImage_pending (f : Image → Image) : (State.modImage f s).pending = s.pending := rfl
@[simp] theorem State.modImage_phase (f : Image → Image) : (State.modImage f s).phase = s.phase := rfl
@[simp] theorem State.modImage_cause (f : Image → Image) : (State.modImage f s).cause = s.cause := rfl
@[simp] theorem State.modImage_nreset (f : Image → Image) : (State.modImage f s).nreset = s.nreset := rfl
@[simp] theorem State.modImage_svcreq (f : Image → Image) : (State.modImage f s).svcreq = s.svcreq := rfl
@[simp] theorem State.modImage_tenths (f : Image → Image) : (State.modImage f s).tenths = s.tenths := rfl
@[simp] theorem State.modImage_divider (f : Image → Image) : (State.modImage f s).divider = s.divider := rfl
@[simp] theorem State.modImage_due (f : Image → Image) : (State.modImage f s).due = s.due := rfl
@[simp] theorem State.modImage_site (f : Image → Image) : (State.modImage f s).site = s.site := rfl
@[simp] theorem State.modImage_cfgs (f : Image → Image) : (State.modImage f s).cfgs = s.cfgs := rfl
@[simp] theorem State.modImage_lives (f : Image → Image) : (State.modImage f s).lives = s.lives := rfl
@[simp] theorem State.modImage_groups (f : Image → Image) : (State.modImage f s).groups = s.groups := rfl
@[simp] theorem State.modImage_threats (f : Image → Image) : (State.modImage f s).threats = s.threats := rfl
@[simp] theorem State.modImage_weather (f : Image → Image) : (State.modImage f s).weather = s.weather := rfl
@[simp] theorem State.modImage_jobs (f : Image → Image) : (State.modImage f s).jobs = s.jobs := rfl
@[simp] theorem State.modImage_held (f : Image → Image) : (State.modImage f s).held = s.held := rfl
@[simp] theorem State.modImage_supply (f : Image → Image) : (State.modImage f s).supply = s.supply := rfl
@[simp] theorem State.modImage_reserv (f : Image → Image) : (State.modImage f s).reserv = s.reserv := rfl
@[simp] theorem State.modImage_warnings (f : Image → Image) : (State.modImage f s).warnings = s.warnings := rfl
@[simp] theorem State.modImage_zones (f : Image → Image) : (State.modImage f s).zones = s.zones := rfl
@[simp] theorem State.modImage_panel (f : Image → Image) : (State.modImage f s).panel = s.panel := rfl
@[simp] theorem State.modImage_line (f : Image → Image) : (State.modImage f s).line = s.line := rfl
@[simp] theorem State.modImage_nodes (f : Image → Image) : (State.modImage f s).nodes = s.nodes := rfl
@[simp] theorem State.modImage_countingPaused (f : Image → Image) : (State.modImage f s).countingPaused = s.countingPaused := rfl
@[simp] theorem State.modImage_host (f : Image → Image) : (State.modImage f s).host = s.host := rfl
@[simp] theorem State.modImage_alerts (f : Image → Image) : (State.modImage f s).alerts = s.alerts := rfl
@[simp] theorem State.modImage_counters (f : Image → Image) : (State.modImage f s).counters = s.counters := rfl
@[simp] theorem State.modImage_store (f : Image → Image) : (State.modImage f s).store = s.store := rfl
@[simp] theorem State.modImage_image (f : Image → Image) : (State.modImage f s).image = f s.image := rfl
@[simp] theorem State.modImage_walkDue (f : Image → Image) : (State.modImage f s).walkDue = s.walkDue := rfl
@[simp] theorem State.modImage_freeUses (f : Image → Image) : (State.modImage f s).freeUses = s.freeUses := rfl

/-! ### setStoreState -/

@[simp] theorem State.setStoreState_pending (x : StoreState) : (State.setStoreState x s).pending = s.pending := rfl
@[simp] theorem State.setStoreState_phase (x : StoreState) : (State.setStoreState x s).phase = s.phase := rfl
@[simp] theorem State.setStoreState_cause (x : StoreState) : (State.setStoreState x s).cause = s.cause := rfl
@[simp] theorem State.setStoreState_nreset (x : StoreState) : (State.setStoreState x s).nreset = s.nreset := rfl
@[simp] theorem State.setStoreState_svcreq (x : StoreState) : (State.setStoreState x s).svcreq = s.svcreq := rfl
@[simp] theorem State.setStoreState_tenths (x : StoreState) : (State.setStoreState x s).tenths = s.tenths := rfl
@[simp] theorem State.setStoreState_divider (x : StoreState) : (State.setStoreState x s).divider = s.divider := rfl
@[simp] theorem State.setStoreState_due (x : StoreState) : (State.setStoreState x s).due = s.due := rfl
@[simp] theorem State.setStoreState_site (x : StoreState) : (State.setStoreState x s).site = s.site := rfl
@[simp] theorem State.setStoreState_cfgs (x : StoreState) : (State.setStoreState x s).cfgs = s.cfgs := rfl
@[simp] theorem State.setStoreState_lives (x : StoreState) : (State.setStoreState x s).lives = s.lives := rfl
@[simp] theorem State.setStoreState_groups (x : StoreState) : (State.setStoreState x s).groups = s.groups := rfl
@[simp] theorem State.setStoreState_threats (x : StoreState) : (State.setStoreState x s).threats = s.threats := rfl
@[simp] theorem State.setStoreState_weather (x : StoreState) : (State.setStoreState x s).weather = s.weather := rfl
@[simp] theorem State.setStoreState_jobs (x : StoreState) : (State.setStoreState x s).jobs = s.jobs := rfl
@[simp] theorem State.setStoreState_held (x : StoreState) : (State.setStoreState x s).held = s.held := rfl
@[simp] theorem State.setStoreState_supply (x : StoreState) : (State.setStoreState x s).supply = s.supply := rfl
@[simp] theorem State.setStoreState_reserv (x : StoreState) : (State.setStoreState x s).reserv = s.reserv := rfl
@[simp] theorem State.setStoreState_warnings (x : StoreState) : (State.setStoreState x s).warnings = s.warnings := rfl
@[simp] theorem State.setStoreState_zones (x : StoreState) : (State.setStoreState x s).zones = s.zones := rfl
@[simp] theorem State.setStoreState_panel (x : StoreState) : (State.setStoreState x s).panel = s.panel := rfl
@[simp] theorem State.setStoreState_line (x : StoreState) : (State.setStoreState x s).line = s.line := rfl
@[simp] theorem State.setStoreState_nodes (x : StoreState) : (State.setStoreState x s).nodes = s.nodes := rfl
@[simp] theorem State.setStoreState_countingPaused (x : StoreState) : (State.setStoreState x s).countingPaused = s.countingPaused := rfl
@[simp] theorem State.setStoreState_host (x : StoreState) : (State.setStoreState x s).host = s.host := rfl
@[simp] theorem State.setStoreState_alerts (x : StoreState) : (State.setStoreState x s).alerts = s.alerts := rfl
@[simp] theorem State.setStoreState_counters (x : StoreState) : (State.setStoreState x s).counters = s.counters := rfl
@[simp] theorem State.setStoreState_store (x : StoreState) : (State.setStoreState x s).store = { s.store with state := x } := rfl
@[simp] theorem State.setStoreState_image (x : StoreState) : (State.setStoreState x s).image = s.image := rfl
@[simp] theorem State.setStoreState_walkDue (x : StoreState) : (State.setStoreState x s).walkDue = s.walkDue := rfl
@[simp] theorem State.setStoreState_freeUses (x : StoreState) : (State.setStoreState x s).freeUses = s.freeUses := rfl

/-! ### beginFrame -/

@[simp] theorem State.beginFrame_pending : (State.beginFrame s).pending = s.pending := rfl
@[simp] theorem State.beginFrame_phase : (State.beginFrame s).phase = s.phase := rfl
@[simp] theorem State.beginFrame_cause : (State.beginFrame s).cause = s.cause := rfl
@[simp] theorem State.beginFrame_nreset : (State.beginFrame s).nreset = s.nreset := rfl
@[simp] theorem State.beginFrame_svcreq : (State.beginFrame s).svcreq = s.svcreq := rfl
@[simp] theorem State.beginFrame_tenths : (State.beginFrame s).tenths = s.tenths := rfl
@[simp] theorem State.beginFrame_divider : (State.beginFrame s).divider = s.divider := rfl
@[simp] theorem State.beginFrame_due : (State.beginFrame s).due = s.due := rfl
@[simp] theorem State.beginFrame_site : (State.beginFrame s).site = s.site := rfl
@[simp] theorem State.beginFrame_cfgs : (State.beginFrame s).cfgs = s.cfgs := rfl
@[simp] theorem State.beginFrame_lives : (State.beginFrame s).lives = s.lives := rfl
@[simp] theorem State.beginFrame_groups : (State.beginFrame s).groups = s.groups := rfl
@[simp] theorem State.beginFrame_threats : (State.beginFrame s).threats = s.threats := rfl
@[simp] theorem State.beginFrame_weather : (State.beginFrame s).weather = s.weather := rfl
@[simp] theorem State.beginFrame_jobs : (State.beginFrame s).jobs = s.jobs := rfl
@[simp] theorem State.beginFrame_held : (State.beginFrame s).held = s.held := rfl
@[simp] theorem State.beginFrame_supply : (State.beginFrame s).supply = s.supply := rfl
@[simp] theorem State.beginFrame_reserv : (State.beginFrame s).reserv = s.reserv := rfl
@[simp] theorem State.beginFrame_warnings : (State.beginFrame s).warnings = s.warnings := rfl
@[simp] theorem State.beginFrame_zones : (State.beginFrame s).zones = s.zones := rfl
@[simp] theorem State.beginFrame_line : (State.beginFrame s).line = s.line := rfl
@[simp] theorem State.beginFrame_nodes : (State.beginFrame s).nodes = s.nodes := rfl
@[simp] theorem State.beginFrame_countingPaused : (State.beginFrame s).countingPaused = s.countingPaused := rfl
@[simp] theorem State.beginFrame_host : (State.beginFrame s).host = s.host := rfl
@[simp] theorem State.beginFrame_alerts : (State.beginFrame s).alerts = s.alerts := rfl
@[simp] theorem State.beginFrame_counters : (State.beginFrame s).counters = s.counters := rfl
@[simp] theorem State.beginFrame_store : (State.beginFrame s).store = s.store := rfl
@[simp] theorem State.beginFrame_image : (State.beginFrame s).image = s.image := rfl
@[simp] theorem State.beginFrame_walkDue : (State.beginFrame s).walkDue = s.walkDue := rfl
@[simp] theorem State.beginFrame_freeUses : (State.beginFrame s).freeUses = s.freeUses := rfl

/-! ### takeSupply -/

@[simp] theorem State.takeSupply_pending : (State.takeSupply s).pending = s.pending := rfl
@[simp] theorem State.takeSupply_phase : (State.takeSupply s).phase = s.phase := rfl
@[simp] theorem State.takeSupply_cause : (State.takeSupply s).cause = s.cause := rfl
@[simp] theorem State.takeSupply_nreset : (State.takeSupply s).nreset = s.nreset := rfl
@[simp] theorem State.takeSupply_svcreq : (State.takeSupply s).svcreq = s.svcreq := rfl
@[simp] theorem State.takeSupply_tenths : (State.takeSupply s).tenths = s.tenths := rfl
@[simp] theorem State.takeSupply_divider : (State.takeSupply s).divider = s.divider := rfl
@[simp] theorem State.takeSupply_due : (State.takeSupply s).due = { s.due with supply := s.due.supply - 1 } := rfl
@[simp] theorem State.takeSupply_site : (State.takeSupply s).site = s.site := rfl
@[simp] theorem State.takeSupply_cfgs : (State.takeSupply s).cfgs = s.cfgs := rfl
@[simp] theorem State.takeSupply_lives : (State.takeSupply s).lives = s.lives := rfl
@[simp] theorem State.takeSupply_groups : (State.takeSupply s).groups = s.groups := rfl
@[simp] theorem State.takeSupply_threats : (State.takeSupply s).threats = s.threats := rfl
@[simp] theorem State.takeSupply_weather : (State.takeSupply s).weather = s.weather := rfl
@[simp] theorem State.takeSupply_jobs : (State.takeSupply s).jobs = s.jobs := rfl
@[simp] theorem State.takeSupply_held : (State.takeSupply s).held = s.held := rfl
@[simp] theorem State.takeSupply_supply : (State.takeSupply s).supply = s.supply := rfl
@[simp] theorem State.takeSupply_reserv : (State.takeSupply s).reserv = s.reserv := rfl
@[simp] theorem State.takeSupply_warnings : (State.takeSupply s).warnings = s.warnings := rfl
@[simp] theorem State.takeSupply_zones : (State.takeSupply s).zones = s.zones := rfl
@[simp] theorem State.takeSupply_panel : (State.takeSupply s).panel = s.panel := rfl
@[simp] theorem State.takeSupply_line : (State.takeSupply s).line = s.line := rfl
@[simp] theorem State.takeSupply_nodes : (State.takeSupply s).nodes = s.nodes := rfl
@[simp] theorem State.takeSupply_countingPaused : (State.takeSupply s).countingPaused = s.countingPaused := rfl
@[simp] theorem State.takeSupply_host : (State.takeSupply s).host = s.host := rfl
@[simp] theorem State.takeSupply_alerts : (State.takeSupply s).alerts = s.alerts := rfl
@[simp] theorem State.takeSupply_counters : (State.takeSupply s).counters = s.counters := rfl
@[simp] theorem State.takeSupply_store : (State.takeSupply s).store = s.store := rfl
@[simp] theorem State.takeSupply_image : (State.takeSupply s).image = s.image := rfl
@[simp] theorem State.takeSupply_walkDue : (State.takeSupply s).walkDue = s.walkDue := rfl
@[simp] theorem State.takeSupply_freeUses : (State.takeSupply s).freeUses = s.freeUses := rfl

/-! ### takeWarnings -/

@[simp] theorem State.takeWarnings_pending : (State.takeWarnings s).pending = s.pending := rfl
@[simp] theorem State.takeWarnings_phase : (State.takeWarnings s).phase = s.phase := rfl
@[simp] theorem State.takeWarnings_cause : (State.takeWarnings s).cause = s.cause := rfl
@[simp] theorem State.takeWarnings_nreset : (State.takeWarnings s).nreset = s.nreset := rfl
@[simp] theorem State.takeWarnings_svcreq : (State.takeWarnings s).svcreq = s.svcreq := rfl
@[simp] theorem State.takeWarnings_tenths : (State.takeWarnings s).tenths = s.tenths := rfl
@[simp] theorem State.takeWarnings_divider : (State.takeWarnings s).divider = s.divider := rfl
@[simp] theorem State.takeWarnings_due : (State.takeWarnings s).due = { s.due with warnings := s.due.warnings - 1, turned := [] } := rfl
@[simp] theorem State.takeWarnings_site : (State.takeWarnings s).site = s.site := rfl
@[simp] theorem State.takeWarnings_cfgs : (State.takeWarnings s).cfgs = s.cfgs := rfl
@[simp] theorem State.takeWarnings_lives : (State.takeWarnings s).lives = s.lives := rfl
@[simp] theorem State.takeWarnings_groups : (State.takeWarnings s).groups = s.groups := rfl
@[simp] theorem State.takeWarnings_threats : (State.takeWarnings s).threats = s.threats := rfl
@[simp] theorem State.takeWarnings_weather : (State.takeWarnings s).weather = s.weather := rfl
@[simp] theorem State.takeWarnings_jobs : (State.takeWarnings s).jobs = s.jobs := rfl
@[simp] theorem State.takeWarnings_held : (State.takeWarnings s).held = s.held := rfl
@[simp] theorem State.takeWarnings_supply : (State.takeWarnings s).supply = s.supply := rfl
@[simp] theorem State.takeWarnings_reserv : (State.takeWarnings s).reserv = s.reserv := rfl
@[simp] theorem State.takeWarnings_warnings : (State.takeWarnings s).warnings = s.warnings := rfl
@[simp] theorem State.takeWarnings_zones : (State.takeWarnings s).zones = s.zones := rfl
@[simp] theorem State.takeWarnings_panel : (State.takeWarnings s).panel = s.panel := rfl
@[simp] theorem State.takeWarnings_line : (State.takeWarnings s).line = s.line := rfl
@[simp] theorem State.takeWarnings_nodes : (State.takeWarnings s).nodes = s.nodes := rfl
@[simp] theorem State.takeWarnings_countingPaused : (State.takeWarnings s).countingPaused = s.countingPaused := rfl
@[simp] theorem State.takeWarnings_host : (State.takeWarnings s).host = s.host := rfl
@[simp] theorem State.takeWarnings_alerts : (State.takeWarnings s).alerts = s.alerts := rfl
@[simp] theorem State.takeWarnings_counters : (State.takeWarnings s).counters = s.counters := rfl
@[simp] theorem State.takeWarnings_store : (State.takeWarnings s).store = s.store := rfl
@[simp] theorem State.takeWarnings_image : (State.takeWarnings s).image = s.image := rfl
@[simp] theorem State.takeWarnings_walkDue : (State.takeWarnings s).walkDue = s.walkDue := rfl
@[simp] theorem State.takeWarnings_freeUses : (State.takeWarnings s).freeUses = s.freeUses := rfl

/-! ### takeNodes -/

@[simp] theorem State.takeNodes_pending : (State.takeNodes s).pending = s.pending := rfl
@[simp] theorem State.takeNodes_phase : (State.takeNodes s).phase = s.phase := rfl
@[simp] theorem State.takeNodes_cause : (State.takeNodes s).cause = s.cause := rfl
@[simp] theorem State.takeNodes_nreset : (State.takeNodes s).nreset = s.nreset := rfl
@[simp] theorem State.takeNodes_svcreq : (State.takeNodes s).svcreq = s.svcreq := rfl
@[simp] theorem State.takeNodes_tenths : (State.takeNodes s).tenths = s.tenths := rfl
@[simp] theorem State.takeNodes_divider : (State.takeNodes s).divider = s.divider := rfl
@[simp] theorem State.takeNodes_due : (State.takeNodes s).due = { s.due with nodes := s.due.nodes - 1 } := rfl
@[simp] theorem State.takeNodes_site : (State.takeNodes s).site = s.site := rfl
@[simp] theorem State.takeNodes_cfgs : (State.takeNodes s).cfgs = s.cfgs := rfl
@[simp] theorem State.takeNodes_lives : (State.takeNodes s).lives = s.lives := rfl
@[simp] theorem State.takeNodes_groups : (State.takeNodes s).groups = s.groups := rfl
@[simp] theorem State.takeNodes_threats : (State.takeNodes s).threats = s.threats := rfl
@[simp] theorem State.takeNodes_weather : (State.takeNodes s).weather = s.weather := rfl
@[simp] theorem State.takeNodes_jobs : (State.takeNodes s).jobs = s.jobs := rfl
@[simp] theorem State.takeNodes_held : (State.takeNodes s).held = s.held := rfl
@[simp] theorem State.takeNodes_supply : (State.takeNodes s).supply = s.supply := rfl
@[simp] theorem State.takeNodes_reserv : (State.takeNodes s).reserv = s.reserv := rfl
@[simp] theorem State.takeNodes_warnings : (State.takeNodes s).warnings = s.warnings := rfl
@[simp] theorem State.takeNodes_zones : (State.takeNodes s).zones = s.zones := rfl
@[simp] theorem State.takeNodes_panel : (State.takeNodes s).panel = s.panel := rfl
@[simp] theorem State.takeNodes_line : (State.takeNodes s).line = s.line := rfl
@[simp] theorem State.takeNodes_nodes : (State.takeNodes s).nodes = s.nodes := rfl
@[simp] theorem State.takeNodes_countingPaused : (State.takeNodes s).countingPaused = s.countingPaused := rfl
@[simp] theorem State.takeNodes_host : (State.takeNodes s).host = s.host := rfl
@[simp] theorem State.takeNodes_alerts : (State.takeNodes s).alerts = s.alerts := rfl
@[simp] theorem State.takeNodes_counters : (State.takeNodes s).counters = s.counters := rfl
@[simp] theorem State.takeNodes_store : (State.takeNodes s).store = s.store := rfl
@[simp] theorem State.takeNodes_image : (State.takeNodes s).image = s.image := rfl
@[simp] theorem State.takeNodes_walkDue : (State.takeNodes s).walkDue = s.walkDue := rfl
@[simp] theorem State.takeNodes_freeUses : (State.takeNodes s).freeUses = s.freeUses := rfl

/-! ### takeSampleEvent -/

@[simp] theorem State.takeSampleEvent_pending : (State.takeSampleEvent s).pending = s.pending := rfl
@[simp] theorem State.takeSampleEvent_phase : (State.takeSampleEvent s).phase = s.phase := rfl
@[simp] theorem State.takeSampleEvent_cause : (State.takeSampleEvent s).cause = s.cause := rfl
@[simp] theorem State.takeSampleEvent_nreset : (State.takeSampleEvent s).nreset = s.nreset := rfl
@[simp] theorem State.takeSampleEvent_svcreq : (State.takeSampleEvent s).svcreq = s.svcreq := rfl
@[simp] theorem State.takeSampleEvent_tenths : (State.takeSampleEvent s).tenths = s.tenths := rfl
@[simp] theorem State.takeSampleEvent_divider : (State.takeSampleEvent s).divider = s.divider := rfl
@[simp] theorem State.takeSampleEvent_due : (State.takeSampleEvent s).due = { s.due with sample := s.due.sample - 1 } := rfl
@[simp] theorem State.takeSampleEvent_site : (State.takeSampleEvent s).site = s.site := rfl
@[simp] theorem State.takeSampleEvent_cfgs : (State.takeSampleEvent s).cfgs = s.cfgs := rfl
@[simp] theorem State.takeSampleEvent_lives : (State.takeSampleEvent s).lives = s.lives := rfl
@[simp] theorem State.takeSampleEvent_groups : (State.takeSampleEvent s).groups = s.groups := rfl
@[simp] theorem State.takeSampleEvent_threats : (State.takeSampleEvent s).threats = s.threats := rfl
@[simp] theorem State.takeSampleEvent_weather : (State.takeSampleEvent s).weather = s.weather := rfl
@[simp] theorem State.takeSampleEvent_jobs : (State.takeSampleEvent s).jobs = s.jobs := rfl
@[simp] theorem State.takeSampleEvent_held : (State.takeSampleEvent s).held = s.held := rfl
@[simp] theorem State.takeSampleEvent_supply : (State.takeSampleEvent s).supply = s.supply := rfl
@[simp] theorem State.takeSampleEvent_reserv : (State.takeSampleEvent s).reserv = s.reserv := rfl
@[simp] theorem State.takeSampleEvent_warnings : (State.takeSampleEvent s).warnings = s.warnings := rfl
@[simp] theorem State.takeSampleEvent_zones : (State.takeSampleEvent s).zones = s.zones := rfl
@[simp] theorem State.takeSampleEvent_panel : (State.takeSampleEvent s).panel = s.panel := rfl
@[simp] theorem State.takeSampleEvent_line : (State.takeSampleEvent s).line = s.line := rfl
@[simp] theorem State.takeSampleEvent_nodes : (State.takeSampleEvent s).nodes = s.nodes := rfl
@[simp] theorem State.takeSampleEvent_countingPaused : (State.takeSampleEvent s).countingPaused = s.countingPaused := rfl
@[simp] theorem State.takeSampleEvent_host : (State.takeSampleEvent s).host = s.host := rfl
@[simp] theorem State.takeSampleEvent_alerts : (State.takeSampleEvent s).alerts = s.alerts := rfl
@[simp] theorem State.takeSampleEvent_counters : (State.takeSampleEvent s).counters = s.counters := rfl
@[simp] theorem State.takeSampleEvent_store : (State.takeSampleEvent s).store = s.store := rfl
@[simp] theorem State.takeSampleEvent_image : (State.takeSampleEvent s).image = s.image := rfl
@[simp] theorem State.takeSampleEvent_walkDue : (State.takeSampleEvent s).walkDue = s.walkDue := rfl
@[simp] theorem State.takeSampleEvent_freeUses : (State.takeSampleEvent s).freeUses = s.freeUses := rfl

/-! ### takeSupervision -/

@[simp] theorem State.takeSupervision_pending : (State.takeSupervision s).pending = s.pending := rfl
@[simp] theorem State.takeSupervision_phase : (State.takeSupervision s).phase = s.phase := rfl
@[simp] theorem State.takeSupervision_cause : (State.takeSupervision s).cause = s.cause := rfl
@[simp] theorem State.takeSupervision_nreset : (State.takeSupervision s).nreset = s.nreset := rfl
@[simp] theorem State.takeSupervision_svcreq : (State.takeSupervision s).svcreq = s.svcreq := rfl
@[simp] theorem State.takeSupervision_tenths : (State.takeSupervision s).tenths = s.tenths := rfl
@[simp] theorem State.takeSupervision_divider : (State.takeSupervision s).divider = s.divider := rfl
@[simp] theorem State.takeSupervision_due : (State.takeSupervision s).due = { s.due with supervision := s.due.supervision - 1 } := rfl
@[simp] theorem State.takeSupervision_site : (State.takeSupervision s).site = s.site := rfl
@[simp] theorem State.takeSupervision_cfgs : (State.takeSupervision s).cfgs = s.cfgs := rfl
@[simp] theorem State.takeSupervision_lives : (State.takeSupervision s).lives = s.lives := rfl
@[simp] theorem State.takeSupervision_groups : (State.takeSupervision s).groups = s.groups := rfl
@[simp] theorem State.takeSupervision_threats : (State.takeSupervision s).threats = s.threats := rfl
@[simp] theorem State.takeSupervision_weather : (State.takeSupervision s).weather = s.weather := rfl
@[simp] theorem State.takeSupervision_jobs : (State.takeSupervision s).jobs = s.jobs := rfl
@[simp] theorem State.takeSupervision_held : (State.takeSupervision s).held = s.held := rfl
@[simp] theorem State.takeSupervision_supply : (State.takeSupervision s).supply = s.supply := rfl
@[simp] theorem State.takeSupervision_reserv : (State.takeSupervision s).reserv = s.reserv := rfl
@[simp] theorem State.takeSupervision_warnings : (State.takeSupervision s).warnings = s.warnings := rfl
@[simp] theorem State.takeSupervision_zones : (State.takeSupervision s).zones = s.zones := rfl
@[simp] theorem State.takeSupervision_panel : (State.takeSupervision s).panel = s.panel := rfl
@[simp] theorem State.takeSupervision_line : (State.takeSupervision s).line = s.line := rfl
@[simp] theorem State.takeSupervision_nodes : (State.takeSupervision s).nodes = s.nodes := rfl
@[simp] theorem State.takeSupervision_countingPaused : (State.takeSupervision s).countingPaused = s.countingPaused := rfl
@[simp] theorem State.takeSupervision_host : (State.takeSupervision s).host = s.host := rfl
@[simp] theorem State.takeSupervision_alerts : (State.takeSupervision s).alerts = s.alerts := rfl
@[simp] theorem State.takeSupervision_counters : (State.takeSupervision s).counters = s.counters := rfl
@[simp] theorem State.takeSupervision_store : (State.takeSupervision s).store = s.store := rfl
@[simp] theorem State.takeSupervision_image : (State.takeSupervision s).image = s.image := rfl
@[simp] theorem State.takeSupervision_walkDue : (State.takeSupervision s).walkDue = s.walkDue := rfl
@[simp] theorem State.takeSupervision_freeUses : (State.takeSupervision s).freeUses = s.freeUses := rfl

/-! ### beatZones -/

@[simp] theorem State.beatZones_pending (taken : List Nat) : (State.beatZones taken s).pending = s.pending := rfl
@[simp] theorem State.beatZones_phase (taken : List Nat) : (State.beatZones taken s).phase = s.phase := rfl
@[simp] theorem State.beatZones_cause (taken : List Nat) : (State.beatZones taken s).cause = s.cause := rfl
@[simp] theorem State.beatZones_nreset (taken : List Nat) : (State.beatZones taken s).nreset = s.nreset := rfl
@[simp] theorem State.beatZones_svcreq (taken : List Nat) : (State.beatZones taken s).svcreq = s.svcreq := rfl
@[simp] theorem State.beatZones_tenths (taken : List Nat) : (State.beatZones taken s).tenths = s.tenths := rfl
@[simp] theorem State.beatZones_divider (taken : List Nat) : (State.beatZones taken s).divider = s.divider := rfl
@[simp] theorem State.beatZones_due (taken : List Nat) : (State.beatZones taken s).due = s.due := rfl
@[simp] theorem State.beatZones_site (taken : List Nat) : (State.beatZones taken s).site = s.site := rfl
@[simp] theorem State.beatZones_cfgs (taken : List Nat) : (State.beatZones taken s).cfgs = s.cfgs := rfl
@[simp] theorem State.beatZones_lives (taken : List Nat) : (State.beatZones taken s).lives = s.lives := rfl
@[simp] theorem State.beatZones_groups (taken : List Nat) : (State.beatZones taken s).groups = s.groups := rfl
@[simp] theorem State.beatZones_threats (taken : List Nat) : (State.beatZones taken s).threats = s.threats := rfl
@[simp] theorem State.beatZones_weather (taken : List Nat) : (State.beatZones taken s).weather = s.weather := rfl
@[simp] theorem State.beatZones_jobs (taken : List Nat) : (State.beatZones taken s).jobs = s.jobs := rfl
@[simp] theorem State.beatZones_held (taken : List Nat) : (State.beatZones taken s).held = s.held := rfl
@[simp] theorem State.beatZones_supply (taken : List Nat) : (State.beatZones taken s).supply = s.supply := rfl
@[simp] theorem State.beatZones_reserv (taken : List Nat) : (State.beatZones taken s).reserv = s.reserv := rfl
@[simp] theorem State.beatZones_warnings (taken : List Nat) : (State.beatZones taken s).warnings = s.warnings := rfl
@[simp] theorem State.beatZones_panel (taken : List Nat) : (State.beatZones taken s).panel = s.panel := rfl
@[simp] theorem State.beatZones_line (taken : List Nat) : (State.beatZones taken s).line = s.line := rfl
@[simp] theorem State.beatZones_nodes (taken : List Nat) : (State.beatZones taken s).nodes = s.nodes := rfl
@[simp] theorem State.beatZones_countingPaused (taken : List Nat) : (State.beatZones taken s).countingPaused = s.countingPaused := rfl
@[simp] theorem State.beatZones_host (taken : List Nat) : (State.beatZones taken s).host = s.host := rfl
@[simp] theorem State.beatZones_alerts (taken : List Nat) : (State.beatZones taken s).alerts = s.alerts := rfl
@[simp] theorem State.beatZones_counters (taken : List Nat) : (State.beatZones taken s).counters = s.counters := rfl
@[simp] theorem State.beatZones_store (taken : List Nat) : (State.beatZones taken s).store = s.store := rfl
@[simp] theorem State.beatZones_image (taken : List Nat) : (State.beatZones taken s).image = s.image := rfl
@[simp] theorem State.beatZones_walkDue (taken : List Nat) : (State.beatZones taken s).walkDue = s.walkDue := rfl
@[simp] theorem State.beatZones_freeUses (taken : List Nat) : (State.beatZones taken s).freeUses = s.freeUses := rfl

/-! ### setQueue -/

@[simp] theorem State.setQueue_pending (q : List LineRequest) : (State.setQueue q s).pending = s.pending := rfl
@[simp] theorem State.setQueue_phase (q : List LineRequest) : (State.setQueue q s).phase = s.phase := rfl
@[simp] theorem State.setQueue_cause (q : List LineRequest) : (State.setQueue q s).cause = s.cause := rfl
@[simp] theorem State.setQueue_nreset (q : List LineRequest) : (State.setQueue q s).nreset = s.nreset := rfl
@[simp] theorem State.setQueue_svcreq (q : List LineRequest) : (State.setQueue q s).svcreq = s.svcreq := rfl
@[simp] theorem State.setQueue_tenths (q : List LineRequest) : (State.setQueue q s).tenths = s.tenths := rfl
@[simp] theorem State.setQueue_divider (q : List LineRequest) : (State.setQueue q s).divider = s.divider := rfl
@[simp] theorem State.setQueue_due (q : List LineRequest) : (State.setQueue q s).due = s.due := rfl
@[simp] theorem State.setQueue_site (q : List LineRequest) : (State.setQueue q s).site = s.site := rfl
@[simp] theorem State.setQueue_cfgs (q : List LineRequest) : (State.setQueue q s).cfgs = s.cfgs := rfl
@[simp] theorem State.setQueue_lives (q : List LineRequest) : (State.setQueue q s).lives = s.lives := rfl
@[simp] theorem State.setQueue_groups (q : List LineRequest) : (State.setQueue q s).groups = s.groups := rfl
@[simp] theorem State.setQueue_threats (q : List LineRequest) : (State.setQueue q s).threats = s.threats := rfl
@[simp] theorem State.setQueue_weather (q : List LineRequest) : (State.setQueue q s).weather = s.weather := rfl
@[simp] theorem State.setQueue_jobs (q : List LineRequest) : (State.setQueue q s).jobs = s.jobs := rfl
@[simp] theorem State.setQueue_held (q : List LineRequest) : (State.setQueue q s).held = s.held := rfl
@[simp] theorem State.setQueue_supply (q : List LineRequest) : (State.setQueue q s).supply = s.supply := rfl
@[simp] theorem State.setQueue_reserv (q : List LineRequest) : (State.setQueue q s).reserv = s.reserv := rfl
@[simp] theorem State.setQueue_warnings (q : List LineRequest) : (State.setQueue q s).warnings = s.warnings := rfl
@[simp] theorem State.setQueue_zones (q : List LineRequest) : (State.setQueue q s).zones = s.zones := rfl
@[simp] theorem State.setQueue_panel (q : List LineRequest) : (State.setQueue q s).panel = s.panel := rfl
@[simp] theorem State.setQueue_nodes (q : List LineRequest) : (State.setQueue q s).nodes = s.nodes := rfl
@[simp] theorem State.setQueue_countingPaused (q : List LineRequest) : (State.setQueue q s).countingPaused = s.countingPaused := rfl
@[simp] theorem State.setQueue_host (q : List LineRequest) : (State.setQueue q s).host = s.host := rfl
@[simp] theorem State.setQueue_alerts (q : List LineRequest) : (State.setQueue q s).alerts = s.alerts := rfl
@[simp] theorem State.setQueue_counters (q : List LineRequest) : (State.setQueue q s).counters = s.counters := rfl
@[simp] theorem State.setQueue_store (q : List LineRequest) : (State.setQueue q s).store = s.store := rfl
@[simp] theorem State.setQueue_image (q : List LineRequest) : (State.setQueue q s).image = s.image := rfl
@[simp] theorem State.setQueue_walkDue (q : List LineRequest) : (State.setQueue q s).walkDue = s.walkDue := rfl
@[simp] theorem State.setQueue_freeUses (q : List LineRequest) : (State.setQueue q s).freeUses = s.freeUses := rfl
@[simp] theorem State.setQueue_line_queue (q : List LineRequest) : (State.setQueue q s).line.queue = q := rfl
@[simp] theorem State.setQueue_line_flight (q : List LineRequest) : (State.setQueue q s).line.flight = s.line.flight := rfl
@[simp] theorem State.setQueue_line_replyBuf (q : List LineRequest) : (State.setQueue q s).line.replyBuf = s.line.replyBuf := rfl
@[simp] theorem State.setQueue_line_replyTimer (q : List LineRequest) : (State.setQueue q s).line.replyTimer = s.line.replyTimer := rfl
@[simp] theorem State.setQueue_line_quiet (q : List LineRequest) : (State.setQueue q s).line.quiet = s.line.quiet := rfl
@[simp] theorem State.setQueue_line_pendingHalts (q : List LineRequest) : (State.setQueue q s).line.pendingHalts = s.line.pendingHalts := rfl
@[simp] theorem State.setQueue_line_newHalts (q : List LineRequest) : (State.setQueue q s).line.newHalts = s.line.newHalts := rfl
@[simp] theorem State.setQueue_line_seq (q : List LineRequest) : (State.setQueue q s).line.seq = s.line.seq := rfl
@[simp] theorem State.setQueue_line_captures (q : List LineRequest) : (State.setQueue q s).line.captures = s.line.captures := rfl
@[simp] theorem State.setQueue_line_handover (q : List LineRequest) : (State.setQueue q s).line.handover = s.line.handover := rfl

/-! ### filterQueue -/

@[simp] theorem State.filterQueue_pending (keep : LineRequest → Bool) : (State.filterQueue keep s).pending = s.pending := rfl
@[simp] theorem State.filterQueue_phase (keep : LineRequest → Bool) : (State.filterQueue keep s).phase = s.phase := rfl
@[simp] theorem State.filterQueue_cause (keep : LineRequest → Bool) : (State.filterQueue keep s).cause = s.cause := rfl
@[simp] theorem State.filterQueue_nreset (keep : LineRequest → Bool) : (State.filterQueue keep s).nreset = s.nreset := rfl
@[simp] theorem State.filterQueue_svcreq (keep : LineRequest → Bool) : (State.filterQueue keep s).svcreq = s.svcreq := rfl
@[simp] theorem State.filterQueue_tenths (keep : LineRequest → Bool) : (State.filterQueue keep s).tenths = s.tenths := rfl
@[simp] theorem State.filterQueue_divider (keep : LineRequest → Bool) : (State.filterQueue keep s).divider = s.divider := rfl
@[simp] theorem State.filterQueue_due (keep : LineRequest → Bool) : (State.filterQueue keep s).due = s.due := rfl
@[simp] theorem State.filterQueue_site (keep : LineRequest → Bool) : (State.filterQueue keep s).site = s.site := rfl
@[simp] theorem State.filterQueue_cfgs (keep : LineRequest → Bool) : (State.filterQueue keep s).cfgs = s.cfgs := rfl
@[simp] theorem State.filterQueue_lives (keep : LineRequest → Bool) : (State.filterQueue keep s).lives = s.lives := rfl
@[simp] theorem State.filterQueue_groups (keep : LineRequest → Bool) : (State.filterQueue keep s).groups = s.groups := rfl
@[simp] theorem State.filterQueue_threats (keep : LineRequest → Bool) : (State.filterQueue keep s).threats = s.threats := rfl
@[simp] theorem State.filterQueue_weather (keep : LineRequest → Bool) : (State.filterQueue keep s).weather = s.weather := rfl
@[simp] theorem State.filterQueue_jobs (keep : LineRequest → Bool) : (State.filterQueue keep s).jobs = s.jobs := rfl
@[simp] theorem State.filterQueue_held (keep : LineRequest → Bool) : (State.filterQueue keep s).held = s.held := rfl
@[simp] theorem State.filterQueue_supply (keep : LineRequest → Bool) : (State.filterQueue keep s).supply = s.supply := rfl
@[simp] theorem State.filterQueue_reserv (keep : LineRequest → Bool) : (State.filterQueue keep s).reserv = s.reserv := rfl
@[simp] theorem State.filterQueue_warnings (keep : LineRequest → Bool) : (State.filterQueue keep s).warnings = s.warnings := rfl
@[simp] theorem State.filterQueue_zones (keep : LineRequest → Bool) : (State.filterQueue keep s).zones = s.zones := rfl
@[simp] theorem State.filterQueue_panel (keep : LineRequest → Bool) : (State.filterQueue keep s).panel = s.panel := rfl
@[simp] theorem State.filterQueue_nodes (keep : LineRequest → Bool) : (State.filterQueue keep s).nodes = s.nodes := rfl
@[simp] theorem State.filterQueue_countingPaused (keep : LineRequest → Bool) : (State.filterQueue keep s).countingPaused = s.countingPaused := rfl
@[simp] theorem State.filterQueue_host (keep : LineRequest → Bool) : (State.filterQueue keep s).host = s.host := rfl
@[simp] theorem State.filterQueue_alerts (keep : LineRequest → Bool) : (State.filterQueue keep s).alerts = s.alerts := rfl
@[simp] theorem State.filterQueue_counters (keep : LineRequest → Bool) : (State.filterQueue keep s).counters = s.counters := rfl
@[simp] theorem State.filterQueue_store (keep : LineRequest → Bool) : (State.filterQueue keep s).store = s.store := rfl
@[simp] theorem State.filterQueue_image (keep : LineRequest → Bool) : (State.filterQueue keep s).image = s.image := rfl
@[simp] theorem State.filterQueue_walkDue (keep : LineRequest → Bool) : (State.filterQueue keep s).walkDue = s.walkDue := rfl
@[simp] theorem State.filterQueue_freeUses (keep : LineRequest → Bool) : (State.filterQueue keep s).freeUses = s.freeUses := rfl
@[simp] theorem State.filterQueue_line_queue (keep : LineRequest → Bool) : (State.filterQueue keep s).line.queue = s.line.queue.filter keep := rfl
@[simp] theorem State.filterQueue_line_flight (keep : LineRequest → Bool) : (State.filterQueue keep s).line.flight = s.line.flight := rfl
@[simp] theorem State.filterQueue_line_replyBuf (keep : LineRequest → Bool) : (State.filterQueue keep s).line.replyBuf = s.line.replyBuf := rfl
@[simp] theorem State.filterQueue_line_replyTimer (keep : LineRequest → Bool) : (State.filterQueue keep s).line.replyTimer = s.line.replyTimer := rfl
@[simp] theorem State.filterQueue_line_quiet (keep : LineRequest → Bool) : (State.filterQueue keep s).line.quiet = s.line.quiet := rfl
@[simp] theorem State.filterQueue_line_pendingHalts (keep : LineRequest → Bool) : (State.filterQueue keep s).line.pendingHalts = s.line.pendingHalts := rfl
@[simp] theorem State.filterQueue_line_newHalts (keep : LineRequest → Bool) : (State.filterQueue keep s).line.newHalts = s.line.newHalts := rfl
@[simp] theorem State.filterQueue_line_seq (keep : LineRequest → Bool) : (State.filterQueue keep s).line.seq = s.line.seq := rfl
@[simp] theorem State.filterQueue_line_captures (keep : LineRequest → Bool) : (State.filterQueue keep s).line.captures = s.line.captures := rfl
@[simp] theorem State.filterQueue_line_handover (keep : LineRequest → Bool) : (State.filterQueue keep s).line.handover = s.line.handover := rfl

/-! ### enqueue -/

@[simp] theorem State.enqueue_pending (r : LineRequest) : (State.enqueue r s).pending = s.pending := rfl
@[simp] theorem State.enqueue_phase (r : LineRequest) : (State.enqueue r s).phase = s.phase := rfl
@[simp] theorem State.enqueue_cause (r : LineRequest) : (State.enqueue r s).cause = s.cause := rfl
@[simp] theorem State.enqueue_nreset (r : LineRequest) : (State.enqueue r s).nreset = s.nreset := rfl
@[simp] theorem State.enqueue_svcreq (r : LineRequest) : (State.enqueue r s).svcreq = s.svcreq := rfl
@[simp] theorem State.enqueue_tenths (r : LineRequest) : (State.enqueue r s).tenths = s.tenths := rfl
@[simp] theorem State.enqueue_divider (r : LineRequest) : (State.enqueue r s).divider = s.divider := rfl
@[simp] theorem State.enqueue_due (r : LineRequest) : (State.enqueue r s).due = s.due := rfl
@[simp] theorem State.enqueue_site (r : LineRequest) : (State.enqueue r s).site = s.site := rfl
@[simp] theorem State.enqueue_cfgs (r : LineRequest) : (State.enqueue r s).cfgs = s.cfgs := rfl
@[simp] theorem State.enqueue_lives (r : LineRequest) : (State.enqueue r s).lives = s.lives := rfl
@[simp] theorem State.enqueue_groups (r : LineRequest) : (State.enqueue r s).groups = s.groups := rfl
@[simp] theorem State.enqueue_threats (r : LineRequest) : (State.enqueue r s).threats = s.threats := rfl
@[simp] theorem State.enqueue_weather (r : LineRequest) : (State.enqueue r s).weather = s.weather := rfl
@[simp] theorem State.enqueue_jobs (r : LineRequest) : (State.enqueue r s).jobs = s.jobs := rfl
@[simp] theorem State.enqueue_held (r : LineRequest) : (State.enqueue r s).held = s.held := rfl
@[simp] theorem State.enqueue_supply (r : LineRequest) : (State.enqueue r s).supply = s.supply := rfl
@[simp] theorem State.enqueue_reserv (r : LineRequest) : (State.enqueue r s).reserv = s.reserv := rfl
@[simp] theorem State.enqueue_warnings (r : LineRequest) : (State.enqueue r s).warnings = s.warnings := rfl
@[simp] theorem State.enqueue_zones (r : LineRequest) : (State.enqueue r s).zones = s.zones := rfl
@[simp] theorem State.enqueue_panel (r : LineRequest) : (State.enqueue r s).panel = s.panel := rfl
@[simp] theorem State.enqueue_nodes (r : LineRequest) : (State.enqueue r s).nodes = s.nodes := rfl
@[simp] theorem State.enqueue_countingPaused (r : LineRequest) : (State.enqueue r s).countingPaused = s.countingPaused := rfl
@[simp] theorem State.enqueue_host (r : LineRequest) : (State.enqueue r s).host = s.host := rfl
@[simp] theorem State.enqueue_alerts (r : LineRequest) : (State.enqueue r s).alerts = s.alerts := rfl
@[simp] theorem State.enqueue_counters (r : LineRequest) : (State.enqueue r s).counters = s.counters := rfl
@[simp] theorem State.enqueue_store (r : LineRequest) : (State.enqueue r s).store = s.store := rfl
@[simp] theorem State.enqueue_image (r : LineRequest) : (State.enqueue r s).image = s.image := rfl
@[simp] theorem State.enqueue_walkDue (r : LineRequest) : (State.enqueue r s).walkDue = s.walkDue := rfl
@[simp] theorem State.enqueue_freeUses (r : LineRequest) : (State.enqueue r s).freeUses = s.freeUses := rfl
@[simp] theorem State.enqueue_line_queue (r : LineRequest) : (State.enqueue r s).line.queue = s.line.queue ++ [r] := rfl
@[simp] theorem State.enqueue_line_flight (r : LineRequest) : (State.enqueue r s).line.flight = s.line.flight := rfl
@[simp] theorem State.enqueue_line_replyBuf (r : LineRequest) : (State.enqueue r s).line.replyBuf = s.line.replyBuf := rfl
@[simp] theorem State.enqueue_line_replyTimer (r : LineRequest) : (State.enqueue r s).line.replyTimer = s.line.replyTimer := rfl
@[simp] theorem State.enqueue_line_quiet (r : LineRequest) : (State.enqueue r s).line.quiet = s.line.quiet := rfl
@[simp] theorem State.enqueue_line_pendingHalts (r : LineRequest) : (State.enqueue r s).line.pendingHalts = s.line.pendingHalts := rfl
@[simp] theorem State.enqueue_line_newHalts (r : LineRequest) : (State.enqueue r s).line.newHalts = s.line.newHalts := rfl
@[simp] theorem State.enqueue_line_seq (r : LineRequest) : (State.enqueue r s).line.seq = s.line.seq := rfl
@[simp] theorem State.enqueue_line_captures (r : LineRequest) : (State.enqueue r s).line.captures = s.line.captures := rfl
@[simp] theorem State.enqueue_line_handover (r : LineRequest) : (State.enqueue r s).line.handover = s.line.handover := rfl

/-! ### placeHalt -/

@[simp] theorem State.placeHalt_pending (i : Nat) : (State.placeHalt i s).pending = s.pending := rfl
@[simp] theorem State.placeHalt_phase (i : Nat) : (State.placeHalt i s).phase = s.phase := rfl
@[simp] theorem State.placeHalt_cause (i : Nat) : (State.placeHalt i s).cause = s.cause := rfl
@[simp] theorem State.placeHalt_nreset (i : Nat) : (State.placeHalt i s).nreset = s.nreset := rfl
@[simp] theorem State.placeHalt_svcreq (i : Nat) : (State.placeHalt i s).svcreq = s.svcreq := rfl
@[simp] theorem State.placeHalt_tenths (i : Nat) : (State.placeHalt i s).tenths = s.tenths := rfl
@[simp] theorem State.placeHalt_divider (i : Nat) : (State.placeHalt i s).divider = s.divider := rfl
@[simp] theorem State.placeHalt_due (i : Nat) : (State.placeHalt i s).due = s.due := rfl
@[simp] theorem State.placeHalt_site (i : Nat) : (State.placeHalt i s).site = s.site := rfl
@[simp] theorem State.placeHalt_cfgs (i : Nat) : (State.placeHalt i s).cfgs = s.cfgs := rfl
@[simp] theorem State.placeHalt_lives (i : Nat) : (State.placeHalt i s).lives = s.lives := rfl
@[simp] theorem State.placeHalt_groups (i : Nat) : (State.placeHalt i s).groups = s.groups := rfl
@[simp] theorem State.placeHalt_threats (i : Nat) : (State.placeHalt i s).threats = s.threats := rfl
@[simp] theorem State.placeHalt_weather (i : Nat) : (State.placeHalt i s).weather = s.weather := rfl
@[simp] theorem State.placeHalt_jobs (i : Nat) : (State.placeHalt i s).jobs = s.jobs := rfl
@[simp] theorem State.placeHalt_held (i : Nat) : (State.placeHalt i s).held = s.held := rfl
@[simp] theorem State.placeHalt_supply (i : Nat) : (State.placeHalt i s).supply = s.supply := rfl
@[simp] theorem State.placeHalt_reserv (i : Nat) : (State.placeHalt i s).reserv = s.reserv := rfl
@[simp] theorem State.placeHalt_warnings (i : Nat) : (State.placeHalt i s).warnings = s.warnings := rfl
@[simp] theorem State.placeHalt_zones (i : Nat) : (State.placeHalt i s).zones = s.zones := rfl
@[simp] theorem State.placeHalt_panel (i : Nat) : (State.placeHalt i s).panel = s.panel := rfl
@[simp] theorem State.placeHalt_nodes (i : Nat) : (State.placeHalt i s).nodes = s.nodes := rfl
@[simp] theorem State.placeHalt_countingPaused (i : Nat) : (State.placeHalt i s).countingPaused = s.countingPaused := rfl
@[simp] theorem State.placeHalt_host (i : Nat) : (State.placeHalt i s).host = s.host := rfl
@[simp] theorem State.placeHalt_alerts (i : Nat) : (State.placeHalt i s).alerts = s.alerts := rfl
@[simp] theorem State.placeHalt_counters (i : Nat) : (State.placeHalt i s).counters = s.counters := rfl
@[simp] theorem State.placeHalt_store (i : Nat) : (State.placeHalt i s).store = s.store := rfl
@[simp] theorem State.placeHalt_image (i : Nat) : (State.placeHalt i s).image = s.image := rfl
@[simp] theorem State.placeHalt_walkDue (i : Nat) : (State.placeHalt i s).walkDue = s.walkDue := rfl
@[simp] theorem State.placeHalt_freeUses (i : Nat) : (State.placeHalt i s).freeUses = s.freeUses := rfl
@[simp] theorem State.placeHalt_line_queue (i : Nat) : (State.placeHalt i s).line.queue = s.line.queue.filter (fun r => !r.isDriveOf i) ++ [.halt (s.cfg i).address i] := rfl
@[simp] theorem State.placeHalt_line_flight (i : Nat) : (State.placeHalt i s).line.flight = s.line.flight := rfl
@[simp] theorem State.placeHalt_line_replyBuf (i : Nat) : (State.placeHalt i s).line.replyBuf = s.line.replyBuf := rfl
@[simp] theorem State.placeHalt_line_replyTimer (i : Nat) : (State.placeHalt i s).line.replyTimer = s.line.replyTimer := rfl
@[simp] theorem State.placeHalt_line_quiet (i : Nat) : (State.placeHalt i s).line.quiet = s.line.quiet := rfl
@[simp] theorem State.placeHalt_line_pendingHalts (i : Nat) : (State.placeHalt i s).line.pendingHalts = s.line.pendingHalts := rfl
@[simp] theorem State.placeHalt_line_newHalts (i : Nat) : (State.placeHalt i s).line.newHalts = s.line.newHalts := rfl
@[simp] theorem State.placeHalt_line_seq (i : Nat) : (State.placeHalt i s).line.seq = s.line.seq := rfl
@[simp] theorem State.placeHalt_line_captures (i : Nat) : (State.placeHalt i s).line.captures = s.line.captures := rfl
@[simp] theorem State.placeHalt_line_handover (i : Nat) : (State.placeHalt i s).line.handover = s.line.handover := rfl

/-! ### unpend -/

@[simp] theorem State.unpend_pending (i : Nat) : (State.unpend i s).pending = s.pending := rfl
@[simp] theorem State.unpend_phase (i : Nat) : (State.unpend i s).phase = s.phase := rfl
@[simp] theorem State.unpend_cause (i : Nat) : (State.unpend i s).cause = s.cause := rfl
@[simp] theorem State.unpend_nreset (i : Nat) : (State.unpend i s).nreset = s.nreset := rfl
@[simp] theorem State.unpend_svcreq (i : Nat) : (State.unpend i s).svcreq = s.svcreq := rfl
@[simp] theorem State.unpend_tenths (i : Nat) : (State.unpend i s).tenths = s.tenths := rfl
@[simp] theorem State.unpend_divider (i : Nat) : (State.unpend i s).divider = s.divider := rfl
@[simp] theorem State.unpend_due (i : Nat) : (State.unpend i s).due = s.due := rfl
@[simp] theorem State.unpend_site (i : Nat) : (State.unpend i s).site = s.site := rfl
@[simp] theorem State.unpend_cfgs (i : Nat) : (State.unpend i s).cfgs = s.cfgs := rfl
@[simp] theorem State.unpend_lives (i : Nat) : (State.unpend i s).lives = s.lives := rfl
@[simp] theorem State.unpend_groups (i : Nat) : (State.unpend i s).groups = s.groups := rfl
@[simp] theorem State.unpend_threats (i : Nat) : (State.unpend i s).threats = s.threats := rfl
@[simp] theorem State.unpend_weather (i : Nat) : (State.unpend i s).weather = s.weather := rfl
@[simp] theorem State.unpend_jobs (i : Nat) : (State.unpend i s).jobs = s.jobs := rfl
@[simp] theorem State.unpend_held (i : Nat) : (State.unpend i s).held = s.held := rfl
@[simp] theorem State.unpend_supply (i : Nat) : (State.unpend i s).supply = s.supply := rfl
@[simp] theorem State.unpend_reserv (i : Nat) : (State.unpend i s).reserv = s.reserv := rfl
@[simp] theorem State.unpend_warnings (i : Nat) : (State.unpend i s).warnings = s.warnings := rfl
@[simp] theorem State.unpend_zones (i : Nat) : (State.unpend i s).zones = s.zones := rfl
@[simp] theorem State.unpend_panel (i : Nat) : (State.unpend i s).panel = s.panel := rfl
@[simp] theorem State.unpend_nodes (i : Nat) : (State.unpend i s).nodes = s.nodes := rfl
@[simp] theorem State.unpend_countingPaused (i : Nat) : (State.unpend i s).countingPaused = s.countingPaused := rfl
@[simp] theorem State.unpend_host (i : Nat) : (State.unpend i s).host = s.host := rfl
@[simp] theorem State.unpend_alerts (i : Nat) : (State.unpend i s).alerts = s.alerts := rfl
@[simp] theorem State.unpend_counters (i : Nat) : (State.unpend i s).counters = s.counters := rfl
@[simp] theorem State.unpend_store (i : Nat) : (State.unpend i s).store = s.store := rfl
@[simp] theorem State.unpend_image (i : Nat) : (State.unpend i s).image = s.image := rfl
@[simp] theorem State.unpend_walkDue (i : Nat) : (State.unpend i s).walkDue = s.walkDue := rfl
@[simp] theorem State.unpend_freeUses (i : Nat) : (State.unpend i s).freeUses = s.freeUses := rfl
@[simp] theorem State.unpend_line_queue (i : Nat) : (State.unpend i s).line.queue = s.line.queue := rfl
@[simp] theorem State.unpend_line_flight (i : Nat) : (State.unpend i s).line.flight = s.line.flight := rfl
@[simp] theorem State.unpend_line_replyBuf (i : Nat) : (State.unpend i s).line.replyBuf = s.line.replyBuf := rfl
@[simp] theorem State.unpend_line_replyTimer (i : Nat) : (State.unpend i s).line.replyTimer = s.line.replyTimer := rfl
@[simp] theorem State.unpend_line_quiet (i : Nat) : (State.unpend i s).line.quiet = s.line.quiet := rfl
@[simp] theorem State.unpend_line_pendingHalts (i : Nat) : (State.unpend i s).line.pendingHalts = s.line.pendingHalts.filter (· != i) := rfl
@[simp] theorem State.unpend_line_newHalts (i : Nat) : (State.unpend i s).line.newHalts = s.line.newHalts.filter (· != i) := rfl
@[simp] theorem State.unpend_line_seq (i : Nat) : (State.unpend i s).line.seq = s.line.seq := rfl
@[simp] theorem State.unpend_line_captures (i : Nat) : (State.unpend i s).line.captures = s.line.captures := rfl
@[simp] theorem State.unpend_line_handover (i : Nat) : (State.unpend i s).line.handover = s.line.handover := rfl

/-! ### mergeHalts -/

@[simp] theorem State.mergeHalts_pending : (State.mergeHalts s).pending = s.pending := rfl
@[simp] theorem State.mergeHalts_phase : (State.mergeHalts s).phase = s.phase := rfl
@[simp] theorem State.mergeHalts_cause : (State.mergeHalts s).cause = s.cause := rfl
@[simp] theorem State.mergeHalts_nreset : (State.mergeHalts s).nreset = s.nreset := rfl
@[simp] theorem State.mergeHalts_svcreq : (State.mergeHalts s).svcreq = s.svcreq := rfl
@[simp] theorem State.mergeHalts_tenths : (State.mergeHalts s).tenths = s.tenths := rfl
@[simp] theorem State.mergeHalts_divider : (State.mergeHalts s).divider = s.divider := rfl
@[simp] theorem State.mergeHalts_due : (State.mergeHalts s).due = s.due := rfl
@[simp] theorem State.mergeHalts_site : (State.mergeHalts s).site = s.site := rfl
@[simp] theorem State.mergeHalts_cfgs : (State.mergeHalts s).cfgs = s.cfgs := rfl
@[simp] theorem State.mergeHalts_lives : (State.mergeHalts s).lives = s.lives := rfl
@[simp] theorem State.mergeHalts_groups : (State.mergeHalts s).groups = s.groups := rfl
@[simp] theorem State.mergeHalts_threats : (State.mergeHalts s).threats = s.threats := rfl
@[simp] theorem State.mergeHalts_weather : (State.mergeHalts s).weather = s.weather := rfl
@[simp] theorem State.mergeHalts_jobs : (State.mergeHalts s).jobs = s.jobs := rfl
@[simp] theorem State.mergeHalts_held : (State.mergeHalts s).held = s.held := rfl
@[simp] theorem State.mergeHalts_supply : (State.mergeHalts s).supply = s.supply := rfl
@[simp] theorem State.mergeHalts_reserv : (State.mergeHalts s).reserv = s.reserv := rfl
@[simp] theorem State.mergeHalts_warnings : (State.mergeHalts s).warnings = s.warnings := rfl
@[simp] theorem State.mergeHalts_zones : (State.mergeHalts s).zones = s.zones := rfl
@[simp] theorem State.mergeHalts_panel : (State.mergeHalts s).panel = s.panel := rfl
@[simp] theorem State.mergeHalts_nodes : (State.mergeHalts s).nodes = s.nodes := rfl
@[simp] theorem State.mergeHalts_countingPaused : (State.mergeHalts s).countingPaused = s.countingPaused := rfl
@[simp] theorem State.mergeHalts_host : (State.mergeHalts s).host = s.host := rfl
@[simp] theorem State.mergeHalts_alerts : (State.mergeHalts s).alerts = s.alerts := rfl
@[simp] theorem State.mergeHalts_counters : (State.mergeHalts s).counters = s.counters := rfl
@[simp] theorem State.mergeHalts_store : (State.mergeHalts s).store = s.store := rfl
@[simp] theorem State.mergeHalts_image : (State.mergeHalts s).image = s.image := rfl
@[simp] theorem State.mergeHalts_walkDue : (State.mergeHalts s).walkDue = s.walkDue := rfl
@[simp] theorem State.mergeHalts_freeUses : (State.mergeHalts s).freeUses = s.freeUses := rfl
@[simp] theorem State.mergeHalts_line_queue : (State.mergeHalts s).line.queue = s.line.queue := rfl
@[simp] theorem State.mergeHalts_line_flight : (State.mergeHalts s).line.flight = s.line.flight := rfl
@[simp] theorem State.mergeHalts_line_replyBuf : (State.mergeHalts s).line.replyBuf = s.line.replyBuf := rfl
@[simp] theorem State.mergeHalts_line_replyTimer : (State.mergeHalts s).line.replyTimer = s.line.replyTimer := rfl
@[simp] theorem State.mergeHalts_line_quiet : (State.mergeHalts s).line.quiet = s.line.quiet := rfl
@[simp] theorem State.mergeHalts_line_pendingHalts : (State.mergeHalts s).line.pendingHalts = s.line.pendingHalts ++ s.line.newHalts := rfl
@[simp] theorem State.mergeHalts_line_newHalts : (State.mergeHalts s).line.newHalts = [] := rfl
@[simp] theorem State.mergeHalts_line_seq : (State.mergeHalts s).line.seq = s.line.seq := rfl
@[simp] theorem State.mergeHalts_line_captures : (State.mergeHalts s).line.captures = s.line.captures := rfl
@[simp] theorem State.mergeHalts_line_handover : (State.mergeHalts s).line.handover = s.line.handover := rfl

/-! ### setFlight -/

@[simp] theorem State.setFlight_pending (f : Option Flight) : (State.setFlight f s).pending = s.pending := rfl
@[simp] theorem State.setFlight_phase (f : Option Flight) : (State.setFlight f s).phase = s.phase := rfl
@[simp] theorem State.setFlight_cause (f : Option Flight) : (State.setFlight f s).cause = s.cause := rfl
@[simp] theorem State.setFlight_nreset (f : Option Flight) : (State.setFlight f s).nreset = s.nreset := rfl
@[simp] theorem State.setFlight_svcreq (f : Option Flight) : (State.setFlight f s).svcreq = s.svcreq := rfl
@[simp] theorem State.setFlight_tenths (f : Option Flight) : (State.setFlight f s).tenths = s.tenths := rfl
@[simp] theorem State.setFlight_divider (f : Option Flight) : (State.setFlight f s).divider = s.divider := rfl
@[simp] theorem State.setFlight_due (f : Option Flight) : (State.setFlight f s).due = s.due := rfl
@[simp] theorem State.setFlight_site (f : Option Flight) : (State.setFlight f s).site = s.site := rfl
@[simp] theorem State.setFlight_cfgs (f : Option Flight) : (State.setFlight f s).cfgs = s.cfgs := rfl
@[simp] theorem State.setFlight_lives (f : Option Flight) : (State.setFlight f s).lives = s.lives := rfl
@[simp] theorem State.setFlight_groups (f : Option Flight) : (State.setFlight f s).groups = s.groups := rfl
@[simp] theorem State.setFlight_threats (f : Option Flight) : (State.setFlight f s).threats = s.threats := rfl
@[simp] theorem State.setFlight_weather (f : Option Flight) : (State.setFlight f s).weather = s.weather := rfl
@[simp] theorem State.setFlight_jobs (f : Option Flight) : (State.setFlight f s).jobs = s.jobs := rfl
@[simp] theorem State.setFlight_held (f : Option Flight) : (State.setFlight f s).held = s.held := rfl
@[simp] theorem State.setFlight_supply (f : Option Flight) : (State.setFlight f s).supply = s.supply := rfl
@[simp] theorem State.setFlight_reserv (f : Option Flight) : (State.setFlight f s).reserv = s.reserv := rfl
@[simp] theorem State.setFlight_warnings (f : Option Flight) : (State.setFlight f s).warnings = s.warnings := rfl
@[simp] theorem State.setFlight_zones (f : Option Flight) : (State.setFlight f s).zones = s.zones := rfl
@[simp] theorem State.setFlight_panel (f : Option Flight) : (State.setFlight f s).panel = s.panel := rfl
@[simp] theorem State.setFlight_nodes (f : Option Flight) : (State.setFlight f s).nodes = s.nodes := rfl
@[simp] theorem State.setFlight_countingPaused (f : Option Flight) : (State.setFlight f s).countingPaused = s.countingPaused := rfl
@[simp] theorem State.setFlight_host (f : Option Flight) : (State.setFlight f s).host = s.host := rfl
@[simp] theorem State.setFlight_alerts (f : Option Flight) : (State.setFlight f s).alerts = s.alerts := rfl
@[simp] theorem State.setFlight_counters (f : Option Flight) : (State.setFlight f s).counters = s.counters := rfl
@[simp] theorem State.setFlight_store (f : Option Flight) : (State.setFlight f s).store = s.store := rfl
@[simp] theorem State.setFlight_image (f : Option Flight) : (State.setFlight f s).image = s.image := rfl
@[simp] theorem State.setFlight_walkDue (f : Option Flight) : (State.setFlight f s).walkDue = s.walkDue := rfl
@[simp] theorem State.setFlight_freeUses (f : Option Flight) : (State.setFlight f s).freeUses = s.freeUses := rfl
@[simp] theorem State.setFlight_line_queue (f : Option Flight) : (State.setFlight f s).line.queue = s.line.queue := rfl
@[simp] theorem State.setFlight_line_flight (f : Option Flight) : (State.setFlight f s).line.flight = f := rfl
@[simp] theorem State.setFlight_line_replyBuf (f : Option Flight) : (State.setFlight f s).line.replyBuf = s.line.replyBuf := rfl
@[simp] theorem State.setFlight_line_replyTimer (f : Option Flight) : (State.setFlight f s).line.replyTimer = s.line.replyTimer := rfl
@[simp] theorem State.setFlight_line_quiet (f : Option Flight) : (State.setFlight f s).line.quiet = s.line.quiet := rfl
@[simp] theorem State.setFlight_line_pendingHalts (f : Option Flight) : (State.setFlight f s).line.pendingHalts = s.line.pendingHalts := rfl
@[simp] theorem State.setFlight_line_newHalts (f : Option Flight) : (State.setFlight f s).line.newHalts = s.line.newHalts := rfl
@[simp] theorem State.setFlight_line_seq (f : Option Flight) : (State.setFlight f s).line.seq = s.line.seq := rfl
@[simp] theorem State.setFlight_line_captures (f : Option Flight) : (State.setFlight f s).line.captures = s.line.captures := rfl
@[simp] theorem State.setFlight_line_handover (f : Option Flight) : (State.setFlight f s).line.handover = s.line.handover := rfl

/-! ### closeWindow -/

@[simp] theorem State.closeWindow_pending : (State.closeWindow s).pending = s.pending := rfl
@[simp] theorem State.closeWindow_phase : (State.closeWindow s).phase = s.phase := rfl
@[simp] theorem State.closeWindow_cause : (State.closeWindow s).cause = s.cause := rfl
@[simp] theorem State.closeWindow_nreset : (State.closeWindow s).nreset = s.nreset := rfl
@[simp] theorem State.closeWindow_svcreq : (State.closeWindow s).svcreq = s.svcreq := rfl
@[simp] theorem State.closeWindow_tenths : (State.closeWindow s).tenths = s.tenths := rfl
@[simp] theorem State.closeWindow_divider : (State.closeWindow s).divider = s.divider := rfl
@[simp] theorem State.closeWindow_due : (State.closeWindow s).due = s.due := rfl
@[simp] theorem State.closeWindow_site : (State.closeWindow s).site = s.site := rfl
@[simp] theorem State.closeWindow_cfgs : (State.closeWindow s).cfgs = s.cfgs := rfl
@[simp] theorem State.closeWindow_lives : (State.closeWindow s).lives = s.lives := rfl
@[simp] theorem State.closeWindow_groups : (State.closeWindow s).groups = s.groups := rfl
@[simp] theorem State.closeWindow_threats : (State.closeWindow s).threats = s.threats := rfl
@[simp] theorem State.closeWindow_weather : (State.closeWindow s).weather = s.weather := rfl
@[simp] theorem State.closeWindow_jobs : (State.closeWindow s).jobs = s.jobs := rfl
@[simp] theorem State.closeWindow_held : (State.closeWindow s).held = s.held := rfl
@[simp] theorem State.closeWindow_supply : (State.closeWindow s).supply = s.supply := rfl
@[simp] theorem State.closeWindow_reserv : (State.closeWindow s).reserv = s.reserv := rfl
@[simp] theorem State.closeWindow_warnings : (State.closeWindow s).warnings = s.warnings := rfl
@[simp] theorem State.closeWindow_zones : (State.closeWindow s).zones = s.zones := rfl
@[simp] theorem State.closeWindow_panel : (State.closeWindow s).panel = s.panel := rfl
@[simp] theorem State.closeWindow_nodes : (State.closeWindow s).nodes = s.nodes := rfl
@[simp] theorem State.closeWindow_countingPaused : (State.closeWindow s).countingPaused = s.countingPaused := rfl
@[simp] theorem State.closeWindow_host : (State.closeWindow s).host = s.host := rfl
@[simp] theorem State.closeWindow_alerts : (State.closeWindow s).alerts = s.alerts := rfl
@[simp] theorem State.closeWindow_counters : (State.closeWindow s).counters = s.counters := rfl
@[simp] theorem State.closeWindow_store : (State.closeWindow s).store = s.store := rfl
@[simp] theorem State.closeWindow_image : (State.closeWindow s).image = s.image := rfl
@[simp] theorem State.closeWindow_walkDue : (State.closeWindow s).walkDue = s.walkDue := rfl
@[simp] theorem State.closeWindow_freeUses : (State.closeWindow s).freeUses = s.freeUses := rfl
@[simp] theorem State.closeWindow_line_queue : (State.closeWindow s).line.queue = s.line.queue := rfl
@[simp] theorem State.closeWindow_line_flight : (State.closeWindow s).line.flight = s.line.flight := rfl
@[simp] theorem State.closeWindow_line_replyBuf : (State.closeWindow s).line.replyBuf = [] := rfl
@[simp] theorem State.closeWindow_line_replyTimer : (State.closeWindow s).line.replyTimer = none := rfl
@[simp] theorem State.closeWindow_line_quiet : (State.closeWindow s).line.quiet = s.line.quiet := rfl
@[simp] theorem State.closeWindow_line_pendingHalts : (State.closeWindow s).line.pendingHalts = s.line.pendingHalts := rfl
@[simp] theorem State.closeWindow_line_newHalts : (State.closeWindow s).line.newHalts = s.line.newHalts := rfl
@[simp] theorem State.closeWindow_line_seq : (State.closeWindow s).line.seq = s.line.seq := rfl
@[simp] theorem State.closeWindow_line_captures : (State.closeWindow s).line.captures = s.line.captures := rfl
@[simp] theorem State.closeWindow_line_handover : (State.closeWindow s).line.handover = s.line.handover := rfl

/-! ### setHandover -/

@[simp] theorem State.setHandover_pending (h : Handover) : (State.setHandover h s).pending = s.pending := rfl
@[simp] theorem State.setHandover_phase (h : Handover) : (State.setHandover h s).phase = s.phase := rfl
@[simp] theorem State.setHandover_cause (h : Handover) : (State.setHandover h s).cause = s.cause := rfl
@[simp] theorem State.setHandover_nreset (h : Handover) : (State.setHandover h s).nreset = s.nreset := rfl
@[simp] theorem State.setHandover_svcreq (h : Handover) : (State.setHandover h s).svcreq = s.svcreq := rfl
@[simp] theorem State.setHandover_tenths (h : Handover) : (State.setHandover h s).tenths = s.tenths := rfl
@[simp] theorem State.setHandover_divider (h : Handover) : (State.setHandover h s).divider = s.divider := rfl
@[simp] theorem State.setHandover_due (h : Handover) : (State.setHandover h s).due = s.due := rfl
@[simp] theorem State.setHandover_site (h : Handover) : (State.setHandover h s).site = s.site := rfl
@[simp] theorem State.setHandover_cfgs (h : Handover) : (State.setHandover h s).cfgs = s.cfgs := rfl
@[simp] theorem State.setHandover_lives (h : Handover) : (State.setHandover h s).lives = s.lives := rfl
@[simp] theorem State.setHandover_groups (h : Handover) : (State.setHandover h s).groups = s.groups := rfl
@[simp] theorem State.setHandover_threats (h : Handover) : (State.setHandover h s).threats = s.threats := rfl
@[simp] theorem State.setHandover_weather (h : Handover) : (State.setHandover h s).weather = s.weather := rfl
@[simp] theorem State.setHandover_jobs (h : Handover) : (State.setHandover h s).jobs = s.jobs := rfl
@[simp] theorem State.setHandover_held (h : Handover) : (State.setHandover h s).held = s.held := rfl
@[simp] theorem State.setHandover_supply (h : Handover) : (State.setHandover h s).supply = s.supply := rfl
@[simp] theorem State.setHandover_reserv (h : Handover) : (State.setHandover h s).reserv = s.reserv := rfl
@[simp] theorem State.setHandover_warnings (h : Handover) : (State.setHandover h s).warnings = s.warnings := rfl
@[simp] theorem State.setHandover_zones (h : Handover) : (State.setHandover h s).zones = s.zones := rfl
@[simp] theorem State.setHandover_panel (h : Handover) : (State.setHandover h s).panel = s.panel := rfl
@[simp] theorem State.setHandover_nodes (h : Handover) : (State.setHandover h s).nodes = s.nodes := rfl
@[simp] theorem State.setHandover_countingPaused (h : Handover) : (State.setHandover h s).countingPaused = s.countingPaused := rfl
@[simp] theorem State.setHandover_host (h : Handover) : (State.setHandover h s).host = s.host := rfl
@[simp] theorem State.setHandover_alerts (h : Handover) : (State.setHandover h s).alerts = s.alerts := rfl
@[simp] theorem State.setHandover_counters (h : Handover) : (State.setHandover h s).counters = s.counters := rfl
@[simp] theorem State.setHandover_store (h : Handover) : (State.setHandover h s).store = s.store := rfl
@[simp] theorem State.setHandover_image (h : Handover) : (State.setHandover h s).image = s.image := rfl
@[simp] theorem State.setHandover_walkDue (h : Handover) : (State.setHandover h s).walkDue = s.walkDue := rfl
@[simp] theorem State.setHandover_freeUses (h : Handover) : (State.setHandover h s).freeUses = s.freeUses := rfl
@[simp] theorem State.setHandover_line_queue (h : Handover) : (State.setHandover h s).line.queue = s.line.queue := rfl
@[simp] theorem State.setHandover_line_flight (h : Handover) : (State.setHandover h s).line.flight = s.line.flight := rfl
@[simp] theorem State.setHandover_line_replyBuf (h : Handover) : (State.setHandover h s).line.replyBuf = s.line.replyBuf := rfl
@[simp] theorem State.setHandover_line_replyTimer (h : Handover) : (State.setHandover h s).line.replyTimer = s.line.replyTimer := rfl
@[simp] theorem State.setHandover_line_quiet (h : Handover) : (State.setHandover h s).line.quiet = s.line.quiet := rfl
@[simp] theorem State.setHandover_line_pendingHalts (h : Handover) : (State.setHandover h s).line.pendingHalts = s.line.pendingHalts := rfl
@[simp] theorem State.setHandover_line_newHalts (h : Handover) : (State.setHandover h s).line.newHalts = s.line.newHalts := rfl
@[simp] theorem State.setHandover_line_seq (h : Handover) : (State.setHandover h s).line.seq = s.line.seq := rfl
@[simp] theorem State.setHandover_line_captures (h : Handover) : (State.setHandover h s).line.captures = s.line.captures := rfl
@[simp] theorem State.setHandover_line_handover (h : Handover) : (State.setHandover h s).line.handover = h := rfl

/-! ### capture -/

@[simp] theorem State.capture_pending (a : Nat) (k : FailureKind) : (State.capture a k s).pending = s.pending := rfl
@[simp] theorem State.capture_phase (a : Nat) (k : FailureKind) : (State.capture a k s).phase = s.phase := rfl
@[simp] theorem State.capture_cause (a : Nat) (k : FailureKind) : (State.capture a k s).cause = s.cause := rfl
@[simp] theorem State.capture_nreset (a : Nat) (k : FailureKind) : (State.capture a k s).nreset = s.nreset := rfl
@[simp] theorem State.capture_svcreq (a : Nat) (k : FailureKind) : (State.capture a k s).svcreq = s.svcreq := rfl
@[simp] theorem State.capture_tenths (a : Nat) (k : FailureKind) : (State.capture a k s).tenths = s.tenths := rfl
@[simp] theorem State.capture_divider (a : Nat) (k : FailureKind) : (State.capture a k s).divider = s.divider := rfl
@[simp] theorem State.capture_due (a : Nat) (k : FailureKind) : (State.capture a k s).due = s.due := rfl
@[simp] theorem State.capture_site (a : Nat) (k : FailureKind) : (State.capture a k s).site = s.site := rfl
@[simp] theorem State.capture_cfgs (a : Nat) (k : FailureKind) : (State.capture a k s).cfgs = s.cfgs := rfl
@[simp] theorem State.capture_lives (a : Nat) (k : FailureKind) : (State.capture a k s).lives = s.lives := rfl
@[simp] theorem State.capture_groups (a : Nat) (k : FailureKind) : (State.capture a k s).groups = s.groups := rfl
@[simp] theorem State.capture_threats (a : Nat) (k : FailureKind) : (State.capture a k s).threats = s.threats := rfl
@[simp] theorem State.capture_weather (a : Nat) (k : FailureKind) : (State.capture a k s).weather = s.weather := rfl
@[simp] theorem State.capture_jobs (a : Nat) (k : FailureKind) : (State.capture a k s).jobs = s.jobs := rfl
@[simp] theorem State.capture_held (a : Nat) (k : FailureKind) : (State.capture a k s).held = s.held := rfl
@[simp] theorem State.capture_supply (a : Nat) (k : FailureKind) : (State.capture a k s).supply = s.supply := rfl
@[simp] theorem State.capture_reserv (a : Nat) (k : FailureKind) : (State.capture a k s).reserv = s.reserv := rfl
@[simp] theorem State.capture_warnings (a : Nat) (k : FailureKind) : (State.capture a k s).warnings = s.warnings := rfl
@[simp] theorem State.capture_zones (a : Nat) (k : FailureKind) : (State.capture a k s).zones = s.zones := rfl
@[simp] theorem State.capture_panel (a : Nat) (k : FailureKind) : (State.capture a k s).panel = s.panel := rfl
@[simp] theorem State.capture_nodes (a : Nat) (k : FailureKind) : (State.capture a k s).nodes = s.nodes := rfl
@[simp] theorem State.capture_countingPaused (a : Nat) (k : FailureKind) : (State.capture a k s).countingPaused = s.countingPaused := rfl
@[simp] theorem State.capture_host (a : Nat) (k : FailureKind) : (State.capture a k s).host = s.host := rfl
@[simp] theorem State.capture_alerts (a : Nat) (k : FailureKind) : (State.capture a k s).alerts = s.alerts := rfl
@[simp] theorem State.capture_counters (a : Nat) (k : FailureKind) : (State.capture a k s).counters = s.counters := rfl
@[simp] theorem State.capture_store (a : Nat) (k : FailureKind) : (State.capture a k s).store = s.store := rfl
@[simp] theorem State.capture_image (a : Nat) (k : FailureKind) : (State.capture a k s).image = s.image := rfl
@[simp] theorem State.capture_walkDue (a : Nat) (k : FailureKind) : (State.capture a k s).walkDue = s.walkDue := rfl
@[simp] theorem State.capture_freeUses (a : Nat) (k : FailureKind) : (State.capture a k s).freeUses = s.freeUses := rfl
@[simp] theorem State.capture_line_queue (a : Nat) (k : FailureKind) : (State.capture a k s).line.queue = s.line.queue := rfl
@[simp] theorem State.capture_line_flight (a : Nat) (k : FailureKind) : (State.capture a k s).line.flight = s.line.flight := rfl
@[simp] theorem State.capture_line_replyBuf (a : Nat) (k : FailureKind) : (State.capture a k s).line.replyBuf = s.line.replyBuf := rfl
@[simp] theorem State.capture_line_replyTimer (a : Nat) (k : FailureKind) : (State.capture a k s).line.replyTimer = s.line.replyTimer := rfl
@[simp] theorem State.capture_line_quiet (a : Nat) (k : FailureKind) : (State.capture a k s).line.quiet = s.line.quiet := rfl
@[simp] theorem State.capture_line_pendingHalts (a : Nat) (k : FailureKind) : (State.capture a k s).line.pendingHalts = s.line.pendingHalts := rfl
@[simp] theorem State.capture_line_newHalts (a : Nat) (k : FailureKind) : (State.capture a k s).line.newHalts = s.line.newHalts := rfl
@[simp] theorem State.capture_line_seq (a : Nat) (k : FailureKind) : (State.capture a k s).line.seq = s.line.seq := rfl
@[simp] theorem State.capture_line_handover (a : Nat) (k : FailureKind) : (State.capture a k s).line.handover = s.line.handover := rfl

end Sys2Proof.Machine
end

