-- ==== Sys2Proof/Laws/Steady.lean ====
section
/-! SUPPORT. What the operations leave unchanged: the steady part of the state (Safety.lean) through every job, queue,
node and line operation, up to the end of an event. -/

namespace Sys2Proof.Machine

variable (s : State)

/-! ### Single updates -/

@[simp] theorem State.modLive_steady (i : Nat) (f : OpeningLive → OpeningLive) : (s.modLive i f).steady = s.steady := rfl
@[simp] theorem State.modNode_steady (i : Nat) (f : NodeRecord → NodeRecord) : (s.modNode i f).steady = s.steady := rfl
@[simp] theorem State.setGroup_steady (g : Nat) (x : Group) : (s.setGroup g x).steady = s.steady := rfl
@[simp] theorem State.triggerWalk_steady : s.triggerWalk.steady = s.steady := rfl
@[simp] theorem State.putJob_steady (j : Job) : (s.putJob j).steady = s.steady := rfl
@[simp] theorem State.dropReservation_steady (i : Nat) : (s.dropReservation i).steady = s.steady := rfl
@[simp] theorem State.modReservation_steady (i : Nat) (f : Reservation → Reservation) :
    (s.modReservation i f).steady = s.steady := rfl
@[simp] theorem State.reserve_steady (i : Nat) : (s.reserve i).steady = s.steady := rfl
@[simp] theorem State.bump_steady (c : Counter) : (s.bump c).steady = s.steady := rfl
@[simp] theorem State.clearAlert_steady (f : AlertFlag) : (s.clearAlert f).steady = s.steady := rfl
@[simp] theorem State.evalZones_steady : s.evalZones.steady = s.steady := rfl
@[simp] theorem State.removeWarning_steady (i : Nat) : (s.removeWarning i).steady = s.steady := rfl
@[simp] theorem State.beginWarning_steady (i : Nat) : (s.beginWarning i).steady = s.steady := rfl
@[simp] theorem State.addHold_steady (i m : Nat) : (s.addHold i m).steady = s.steady := rfl
@[simp] theorem State.modHost_steady (f : HostLink → HostLink) : (s.modHost f).steady = s.steady := rfl
@[simp] theorem State.setQueue_steady (q : List LineRequest) : (s.setQueue q).steady = s.steady := rfl
@[simp] theorem State.filterQueue_steady (k : LineRequest → Bool) : (s.filterQueue k).steady = s.steady := rfl
@[simp] theorem State.enqueue_steady (r : LineRequest) : (s.enqueue r).steady = s.steady := rfl
@[simp] theorem State.placeHalt_steady (i : Nat) : (s.placeHalt i).steady = s.steady := rfl
@[simp] theorem State.unpend_steady (i : Nat) : (s.unpend i).steady = s.steady := rfl
@[simp] theorem State.mergeHalts_steady : s.mergeHalts.steady = s.steady := rfl
@[simp] theorem State.setFlight_steady (f : Option Flight) : (s.setFlight f).steady = s.steady := rfl
@[simp] theorem State.closeWindow_steady : s.closeWindow.steady = s.steady := rfl
@[simp] theorem State.setHandover_steady (h : Handover) : (s.setHandover h).steady = s.steady := rfl
@[simp] theorem State.capture_steady (a : Nat) (k : FailureKind) : (s.capture a k).steady = s.steady := rfl
@[simp] theorem State.hastenPoll_steady (i : Nat) : (s.hastenPoll i).steady = s.steady := rfl
@[simp] theorem State.forgive_steady (i : Nat) : (s.forgive i).steady = s.steady := rfl

/-! ### Notices, alerts and the line request queue -/

@[simp] theorem State.placeNotice_steady (n : Notice) : (s.placeNotice n).steady = s.steady := by
  unfold State.placeNotice
  split <;> [rfl; split <;> rfl]

@[simp] theorem State.raiseAlert_steady (f : AlertFlag) (o : Option Nat) : (s.raiseAlert f o).steady = s.steady := by
  unfold State.raiseAlert
  split
  · rfl
  · rw [State.placeNotice_steady]; rfl

@[simp] theorem serveHalts_steady (l : List Nat) : (serveHalts l s).steady = s.steady := by
  induction l generalizing s with
  | nil => rfl
  | cons i is ih => unfold serveHalts; split <;> simp [ih]

@[simp] theorem State.slotFreed_steady : s.slotFreed.steady = s.steady := serveHalts_steady ..

@[simp] theorem State.pollDisplaced_steady (r : LineRequest) : (s.pollDisplaced r).steady = s.steady := by
  unfold State.pollDisplaced
  split <;> simp

@[simp] theorem State.requestHalt_steady (i : Nat) : (s.requestHalt i).steady = s.steady := by
  unfold State.requestHalt
  dsimp only
  split
  · simp
  · split
    · simp
    · rfl

/-! ### Jobs -/

@[simp] theorem State.changeJob_steady (a b : Job) : (s.changeJob a b).steady = s.steady := by
  simp [State.changeJob, apply_ite State.steady]

@[simp] theorem State.createJob_steady (i t : Nat) (r : Rank) (d : Nat) (tag : Option Nat) :
    (s.createJob i t r d tag).steady = s.steady := rfl

@[simp] theorem State.haltJob_steady (a b : Job) (x : AfterStop) : (s.haltJob a b x).steady = s.steady := by
  simp [State.haltJob]

@[simp] theorem State.release_steady (i : Nat) : (s.release i).steady = s.steady := by
  unfold State.release
  split
  · rfl
  · split <;> simp

@[simp] theorem State.escalate_steady (j : Job) (r : Rank) (d : Nat) : (s.escalate j r d).steady = s.steady := by
  unfold State.escalate
  dsimp only
  split <;> simp

@[simp] theorem State.convertToQueued_steady (a b : Job) : (s.convertToQueued a b).steady = s.steady := by
  simp [State.convertToQueued]

@[simp] theorem State.convert_steady (j : Job) (r : Rank) (d : Nat) : (s.convert j r d).steady = s.steady := by
  unfold State.convert
  dsimp only
  split <;> (try split) <;> simp

@[simp] theorem State.coverageCore_steady (i : Nat) : (s.coverageCore i).steady = s.steady := by
  unfold State.coverageCore
  split
  · rfl
  · split
    · rfl
    · split <;> split <;> simp

/-- A fold of operations that keep the steady part keeps it. -/
theorem foldl_steady {α : Type} (f : State → α → State) (h : ∀ t x, (f t x).steady = t.steady) (l : List α) :
    (l.foldl f s).steady = s.steady := by
  induction l generalizing s with
  | nil => rfl
  | cons x xs ih => rw [List.foldl_cons, ih, h]

@[simp] theorem State.applyGroup_steady (g : Nat) : (s.applyGroup g).steady = s.steady := by
  unfold State.applyGroup
  dsimp only
  split
  · simp
  · rw [foldl_steady _ _ (fun t x => by simp)]
    split <;> simp

@[simp] theorem State.testQuiescence_steady (g : Option Nat) : (s.testQuiescence g).steady = s.steady := by
  unfold State.testQuiescence
  split
  · rfl
  · split <;> simp

@[simp] theorem State.coverage_steady (i : Nat) : (s.coverage i).steady = s.steady := by simp [State.coverage]

@[simp] theorem State.removeJob_steady (i : Nat) (o : JobOutcome) : (s.removeJob i o).steady = s.steady := by
  simp [State.removeJob]
  rfl

@[simp] theorem State.settleOutcome_steady (i : Nat) (o : JobOutcome) : (s.settleOutcome i o).steady = s.steady := by
  simp [State.settleOutcome, apply_ite State.steady]

@[simp] theorem State.endJob_steady (j : Job) (o : JobOutcome) : (s.endJob j o).steady = s.steady := by
  simp [State.endJob]

@[simp] theorem State.returnJob_steady (a b : Job) : (s.returnJob a b).steady = s.steady := by simp [State.returnJob]

@[simp] theorem State.obstruct_steady (j : Job) (f : NodeFaults) : (s.obstruct j f).steady = s.steady := by
  simp only [State.obstruct]
  split <;> simp

@[simp] theorem State.reestimate_steady (j : Job) : (s.reestimate j).steady = s.steady := by simp [State.reestimate]

@[simp] theorem State.endIfClosed_steady (j : Job) : (s.endIfClosed j).steady = s.steady := by
  simp [State.endIfClosed, apply_ite State.steady]

@[simp] theorem State.statusReport_steady (i : Nat) : (s.statusReport i).steady = s.steady := by
  unfold State.statusReport
  split
  · rfl
  · split <;> (try split) <;> (try split) <;> simp

@[simp] theorem State.beginInrush_steady (i : Nat) : (s.beginInrush i).steady = s.steady := rfl

@[simp] theorem State.driveOutcome_steady (i : Nat) (ok : Bool) : (s.driveOutcome i ok).steady = s.steady := by
  unfold State.driveOutcome
  split
  · rfl
  · split <;> (try split) <;> simp

@[simp] theorem State.afterStop_steady (j : Job) (a : AfterStop) : (s.afterStop j a).steady = s.steady := by
  unfold State.afterStop
  dsimp only
  split <;> simp

@[simp] theorem State.haltOutcome_steady (i : Nat) (ok : Bool) : (s.haltOutcome i ok).steady = s.steady := by
  unfold State.haltOutcome
  split
  · rfl
  · split <;> (try split) <;> (try split) <;> simp

/-! ### The walk and the end of an event -/

@[simp] theorem State.dispatch_steady (j : Job) : (s.dispatch j).steady = s.steady := by
  unfold State.dispatch
  split <;> simp

@[simp] theorem State.startJob_steady (j : Job) : (s.startJob j).steady = s.steady := by
  unfold State.startJob
  dsimp only
  split <;> simp

theorem walkPass_steady (l : List Nat) : (walkPass l s).1.steady = s.steady := by
  induction l generalizing s with
  | nil => rfl
  | cons i is ih =>
    unfold walkPass
    split
    · exact ih s
    · repeat' split
      all_goals first | rfl | simp [ih]

theorem walkFrom_steady (n : Nat) : (walkFrom n s).steady = s.steady := by
  induction n generalizing s with
  | zero => rfl
  | succ n ih =>
    unfold walkFrom
    have h := walkPass_steady s s.queuedOpenings
    split <;> rename_i heq <;> rw [heq] at h
    · rw [ih, h]
    · exact h

@[simp] theorem State.runWalk_steady : s.runWalk.steady = s.steady := by
  unfold State.runWalk
  split
  · exact walkFrom_steady s 49
  · rfl

@[simp] theorem State.warningReported_steady (i : Nat) : (s.warningReported i).steady = s.steady := by
  unfold State.warningReported
  split
  · rfl
  · split
    · split <;> simp
    · rfl

@[simp] theorem State.endWarning_steady (i : Nat) : (s.endWarning i).steady = s.steady := by simp [State.endWarning]

@[simp] theorem State.placed_steady (i : Nat) : (s.placed i).steady = s.steady := rfl

@[simp] theorem placeEach_steady (l : List Nat) : (placeEach l s).steady = s.steady := by
  induction l generalizing s with
  | nil => rfl
  | cons i is ih => unfold placeEach; repeat' split
                    all_goals simp [ih]

@[simp] theorem State.placeOwed_steady : s.placeOwed.steady = s.steady := placeEach_steady ..

@[simp] theorem State.becomeOwed_steady (i : Nat) : (s.becomeOwed i).steady = s.steady := by
  unfold State.becomeOwed
  split <;> simp

@[simp] theorem State.startRequest_steady (r : LineRequest) : (s.startRequest r).steady = s.steady := by
  unfold State.startRequest
  rw [State.slotFreed_steady]; rfl

@[simp] theorem State.arbitrate_steady : s.arbitrate.steady = s.steady := by
  unfold State.arbitrate
  split
  · split <;> simp
  · rfl

@[simp] theorem State.reportRoom_steady (q : List LineRequest) : (s.reportRoom q).steady = s.steady := by
  unfold State.reportRoom
  dsimp only
  split <;> split <;> simp

/-- The end of an event leaves the steady part as it is. -/
@[simp] theorem State.finish_steady (q : List LineRequest) : (s.finish q).steady = s.steady := by simp [State.finish]

/-! ### Service handover -/

@[simp] theorem State.grantIfDrained_steady : s.grantIfDrained.steady = s.steady := by
  unfold State.grantIfDrained
  split <;> simp

@[simp] theorem State.enterDraining_steady : s.enterDraining.steady = s.steady := by
  unfold State.enterDraining
  rw [State.grantIfDrained_steady]; rfl

@[simp] theorem State.takeServiceRequest_steady : s.takeServiceRequest.steady = s.steady := by
  unfold State.takeServiceRequest
  repeat' split
  all_goals simp

@[simp] theorem State.withdrawGrant_steady : s.withdrawGrant.steady = s.steady := by simp [State.withdrawGrant]

@[simp] theorem State.takeServiceRelease_steady : s.takeServiceRelease.steady = s.steady := by
  unfold State.takeServiceRelease
  split <;> rfl

@[simp] theorem State.weatherRaised_steady : s.weatherRaised.steady = s.steady := by
  unfold State.weatherRaised
  split <;> rfl

@[simp] theorem State.weatherEnded_steady : s.weatherEnded.steady = s.steady := by
  unfold State.weatherEnded
  split <;> simp

@[simp] theorem State.pollAllPresent_steady : s.pollAllPresent.steady = s.steady := by
  unfold State.pollAllPresent
  apply foldl_steady
  intro t i
  split <;> simp

@[simp] theorem State.endGuard_steady : s.endGuard.steady = s.steady := by
  unfold State.endGuard
  split
  · dsimp only
    have h : (State.pollAllPresent { s with countingPaused := false }).steady = s.steady := by
      rw [State.pollAllPresent_steady]; rfl
    repeat' split
    all_goals simp [h]
  · rfl

/-! ### Replies and failures -/

@[simp] theorem State.writeStatus_steady (i : Nat) (r : StatusReply) : (s.writeStatus i r).steady = s.steady := by
  unfold State.writeStatus
  dsimp only
  split <;> simp

@[simp] theorem State.presenceReplied_steady (i : Nat) : (s.presenceReplied i).steady = s.steady := by
  unfold State.presenceReplied
  dsimp only
  split <;> simp

@[simp] theorem State.stoppedReport_steady (i : Nat) : (s.stoppedReport i).steady = s.steady := by
  unfold State.stoppedReport
  repeat' split
  all_goals simp

@[simp] theorem State.payCoverage_steady (i : Nat) : (s.payCoverage i).steady = s.steady := by
  unfold State.payCoverage
  split <;> simp

@[simp] theorem State.reportOutcome_steady (r : LineRequest) (ok : Bool) : (s.reportOutcome r ok).steady = s.steady := by
  unfold State.reportOutcome
  split <;> simp

@[simp] theorem State.passOn_steady (r : LineRequest) (i : Nat) : (s.passOn r i).steady = s.steady := by
  unfold State.passOn
  split <;> simp

@[simp] theorem State.takeStatus_steady (i : Nat) (q : LineRequest) (r : StatusReply) :
    (s.takeStatus i q r).steady = s.steady := by
  simp [State.takeStatus, apply_ite State.steady]

@[simp] theorem State.lowerTarget_steady (i : Nat) : (s.lowerTarget i).steady = s.steady := by
  unfold State.lowerTarget
  repeat' split
  all_goals simp

@[simp] theorem State.takeIdent_steady (i n : Nat) : (s.takeIdent i n).steady = s.steady := by
  simp [State.takeIdent, apply_ite State.steady]

@[simp] theorem State.enterHunt_steady (i : Nat) : (s.enterHunt i).steady = s.steady := rfl

@[simp] theorem State.makeResidual_steady (j : Job) : (s.makeResidual j).steady = s.steady := rfl

@[simp] theorem State.loseJob_steady (j : Job) : (s.loseJob j).steady = s.steady := by
  unfold State.loseJob
  split <;> simp

@[simp] theorem State.loseNode_steady (i : Nat) : (s.loseNode i).steady = s.steady := by
  unfold State.loseNode
  dsimp only
  split <;> simp

@[simp] theorem State.nodeFailure_steady (i : Nat) : (s.nodeFailure i).steady = s.steady := by
  unfold State.nodeFailure
  repeat' split
  all_goals simp

@[simp] theorem State.endFlight_steady : s.endFlight.steady = s.steady := by simp [State.endFlight]

@[simp] theorem State.countFailure_steady (f : Flight) (k : FailureKind) : (s.countFailure f k).steady = s.steady := by
  change (State.closeWindow (State.capture f.request.address k (s.bump k.counter))).steady = s.steady
  simp

@[simp] theorem State.reportFailure_steady (f : Flight) : (s.reportFailure f).steady = s.steady := by
  unfold State.reportFailure
  split <;> simp

@[simp] theorem State.failAttempt_steady (k : FailureKind) (f : Flight) : (s.failAttempt k f).steady = s.steady := by
  unfold State.failAttempt
  dsimp only
  split
  · simp
  · split <;> simp

@[simp] theorem State.takeWait_steady (f : Flight) : (s.takeWait f).steady = s.steady := by
  unfold State.takeWait
  split <;> simp

theorem State.succeed_steady (f : Flight) (g : Nat → State → State) (h : ∀ i t, (g i t).steady = t.steady) :
    (s.succeed f g).steady = s.steady := by
  unfold State.succeed
  dsimp only
  split <;> simp [h]

@[simp] theorem State.openWindow_steady : s.openWindow.steady = s.steady := by
  unfold State.openWindow
  repeat' split
  all_goals rfl

@[simp] theorem State.timeOutReply_steady : s.timeOutReply.steady = s.steady := by
  unfold State.timeOutReply
  repeat' split
  all_goals simp

@[simp] theorem State.gapInReply_steady : s.gapInReply.steady = s.steady := by
  unfold State.gapInReply
  repeat' split
  all_goals simp

@[simp] theorem State.resend_steady : s.resend.steady = s.steady := by
  unfold State.resend
  repeat' split
  all_goals rfl

@[simp] theorem State.endQuiet_steady : s.endQuiet.steady = s.steady := by
  unfold State.endQuiet
  repeat' split
  all_goals (try dsimp only)
  all_goals repeat' split
  all_goals rfl

@[simp] theorem State.haltAllDone_steady : s.haltAllDone.steady = s.steady := by
  unfold State.haltAllDone
  repeat' split
  all_goals first | rfl | (simp; rfl)

/-! ### Supervision -/

@[simp] theorem State.endRetryWait_steady (i : Nat) : (s.endRetryWait i).steady = s.steady := by
  unfold State.endRetryWait
  repeat' split
  all_goals simp

@[simp] theorem State.timeOutMotion_steady (i : Nat) : (s.timeOutMotion i).steady = s.steady := by
  unfold State.timeOutMotion
  repeat' split
  all_goals simp

@[simp] theorem State.missDeadline_steady (i : Nat) : (s.missDeadline i).steady = s.steady := by
  unfold State.missDeadline
  repeat' split
  all_goals simp

@[simp] theorem State.unhold_steady (i : Nat) : (s.unhold i).steady = s.steady := by
  unfold State.unhold
  rw [State.coverage_steady]; rfl

@[simp] theorem State.expireHold_steady (i : Nat) : (s.expireHold i).steady = s.steady := by
  unfold State.expireHold
  repeat' split
  all_goals simp

@[simp] theorem State.supervise_steady : s.supervise.steady = s.steady := by
  unfold State.supervise
  dsimp only
  rw [foldl_steady _ _ (fun t i => by simp), foldl_steady _ _ (fun t i => by simp),
    foldl_steady _ _ (fun t i => by simp), foldl_steady _ _ (fun t i => by simp)]

@[simp] theorem State.endWarningIfOver_steady (i : Nat) : (s.endWarningIfOver i).steady = s.steady := by
  unfold State.endWarningIfOver
  split <;> simp

@[simp] theorem State.beatZones_steady (l : List Nat) : (s.beatZones l).steady = s.steady := rfl

/-- The 100 ms event of Warning Outputs takes one delivered event, and nothing else that is steady changes. -/
@[simp] theorem State.warnings100ms_steady : s.warnings100ms.steady = s.takeWarnings.steady := by
  unfold State.warnings100ms
  rw [foldl_steady _ _ (fun t i => by simp)]
  simp

/-! ### What an end of an event keeps, field by field -/

section
variable (q : List LineRequest)
@[simp] theorem State.finish_pending : (s.finish q).pending = s.pending := congrArg Steady.pending (s.finish_steady q)
@[simp] theorem State.finish_phase : (s.finish q).phase = s.phase := congrArg Steady.phase (s.finish_steady q)
@[simp] theorem State.finish_cause : (s.finish q).cause = s.cause := congrArg Steady.cause (s.finish_steady q)
@[simp] theorem State.finish_nreset : (s.finish q).nreset = s.nreset := congrArg Steady.nreset (s.finish_steady q)
@[simp] theorem State.finish_svcreq : (s.finish q).svcreq = s.svcreq := congrArg Steady.svcreq (s.finish_steady q)
@[simp] theorem State.finish_tenths : (s.finish q).tenths = s.tenths := congrArg Steady.tenths (s.finish_steady q)
@[simp] theorem State.finish_divider : (s.finish q).divider = s.divider := congrArg Steady.divider (s.finish_steady q)
@[simp] theorem State.finish_due : (s.finish q).due = s.due := congrArg Steady.due (s.finish_steady q)
@[simp] theorem State.finish_site : (s.finish q).site = s.site := congrArg Steady.site (s.finish_steady q)
@[simp] theorem State.finish_cfgs : (s.finish q).cfgs = s.cfgs := congrArg Steady.cfgs (s.finish_steady q)
@[simp] theorem State.finish_threats : (s.finish q).threats = s.threats := congrArg Steady.threats (s.finish_steady q)
@[simp] theorem State.finish_weather : (s.finish q).weather = s.weather := congrArg Steady.weather (s.finish_steady q)
@[simp] theorem State.finish_supply : (s.finish q).supply = s.supply := congrArg Steady.supply (s.finish_steady q)
@[simp] theorem State.finish_panel : (s.finish q).panel = s.panel := congrArg Steady.panel (s.finish_steady q)
@[simp] theorem State.finish_store : (s.finish q).store = s.store := congrArg Steady.store (s.finish_steady q)
@[simp] theorem State.finish_image : (s.finish q).image = s.image := congrArg Steady.image (s.finish_steady q)
@[simp] theorem State.finish_freeUses : (s.finish q).freeUses = s.freeUses := congrArg Steady.free (s.finish_steady q)
end

end Sys2Proof.Machine
end

