-- ==== Sys2Proof/Laws/Calm.lean ====
section
/-! SUPPORT. The end of an event (R58, R122, R124) keeps the calm part of the state (Safety.lean). -/

namespace Sys2Proof.Machine

variable (s : State)

/-! ### Single updates -/

@[simp] theorem State.modNode_calm (i : Nat) (f : NodeRecord → NodeRecord) : (s.modNode i f).calm = s.calm := rfl
@[simp] theorem State.triggerWalk_calm : (s.triggerWalk).calm = s.calm := rfl
@[simp] theorem State.putJob_calm (j : Job) : (s.putJob j).calm = s.calm := rfl
@[simp] theorem State.dropReservation_calm (i : Nat) : (s.dropReservation i).calm = s.calm := rfl
@[simp] theorem State.reserve_calm (i : Nat) : (s.reserve i).calm = s.calm := rfl
@[simp] theorem State.evalZones_calm : (s.evalZones).calm = s.calm := rfl
@[simp] theorem State.beginWarning_calm (i : Nat) : (s.beginWarning i).calm = s.calm := rfl
@[simp] theorem State.setQueue_calm (q : List LineRequest) : (s.setQueue q).calm = s.calm := rfl
@[simp] theorem State.enqueue_calm (r : LineRequest) : (s.enqueue r).calm = s.calm := rfl
@[simp] theorem State.placeHalt_calm (i : Nat) : (s.placeHalt i).calm = s.calm := rfl
@[simp] theorem State.unpend_calm (i : Nat) : (s.unpend i).calm = s.calm := rfl
@[simp] theorem State.mergeHalts_calm : (s.mergeHalts).calm = s.calm := rfl
@[simp] theorem State.placed_calm (i : Nat) : (s.placed i).calm = s.calm := rfl

/-! ### The arbiter, the walk and the owed requests -/

@[simp] theorem serveHalts_calm (l : List Nat) : (serveHalts l s).calm = s.calm := by
  induction l generalizing s with
  | nil => rfl
  | cons i is ih => unfold serveHalts; split <;> simp [ih]

@[simp] theorem State.slotFreed_calm : s.slotFreed.calm = s.calm := serveHalts_calm ..

/-- A change of a job touches the queue, the node record, the zones and the trigger of the walk, nothing calm. -/
@[simp] theorem State.changeJob_calm (a b : Job) : (s.changeJob a b).calm = s.calm := by
  unfold State.changeJob
  dsimp only
  split <;> split <;> split <;> rfl

@[simp] theorem State.release_calm (i : Nat) : (s.release i).calm = s.calm := by
  unfold State.release
  split
  · rfl
  · split <;> simp

@[simp] theorem State.convertToQueued_calm (a b : Job) : (s.convertToQueued a b).calm = s.calm := by
  simp [State.convertToQueued]

@[simp] theorem State.dispatch_calm (j : Job) : (s.dispatch j).calm = s.calm := by
  unfold State.dispatch
  split <;> simp

@[simp] theorem State.startJob_calm (j : Job) : (s.startJob j).calm = s.calm := by
  unfold State.startJob
  dsimp only
  split <;> simp

theorem walkPass_calm (l : List Nat) : (walkPass l s).1.calm = s.calm := by
  induction l generalizing s with
  | nil => rfl
  | cons i is ih =>
    unfold walkPass
    split
    · exact ih s
    · repeat' split
      all_goals first | rfl | simp [ih]

theorem walkFrom_calm (n : Nat) : (walkFrom n s).calm = s.calm := by
  induction n generalizing s with
  | zero => rfl
  | succ n ih =>
    unfold walkFrom
    have h := walkPass_calm s s.queuedOpenings
    split <;> rename_i heq <;> rw [heq] at h
    · rw [ih, h]
    · exact h

@[simp] theorem State.runWalk_calm : s.runWalk.calm = s.calm := by
  unfold State.runWalk
  split
  · exact walkFrom_calm s 49
  · rfl

@[simp] theorem placeEach_calm (l : List Nat) : (placeEach l s).calm = s.calm := by
  induction l generalizing s with
  | nil => rfl
  | cons i is ih =>
    unfold placeEach
    repeat' split
    all_goals simp [ih]

@[simp] theorem State.placeOwed_calm : s.placeOwed.calm = s.calm := placeEach_calm ..

@[simp] theorem State.startRequest_calm (r : LineRequest) : (s.startRequest r).calm = s.calm := by
  unfold State.startRequest
  rw [State.slotFreed_calm]; rfl

@[simp] theorem State.arbitrate_calm : s.arbitrate.calm = s.calm := by
  unfold State.arbitrate
  split
  · split <;> simp
  · rfl

@[simp] theorem State.reportRoom_calm (q : List LineRequest) : (s.reportRoom q).calm = s.calm := by
  unfold State.reportRoom
  dsimp only
  split <;> split <;> simp

/-- The end of an event leaves the calm part as it is. -/
@[simp] theorem State.finish_calm (q : List LineRequest) : (s.finish q).calm = s.calm := by simp [State.finish]

/-! ### Field by field -/

section
variable (q : List LineRequest)

@[simp] theorem State.finish_lives : (s.finish q).lives = s.lives := congrArg Calm.lives (s.finish_calm q)
@[simp] theorem State.finish_groups : (s.finish q).groups = s.groups := congrArg Calm.groups (s.finish_calm q)
@[simp] theorem State.finish_held : (s.finish q).held = s.held := congrArg Calm.held (s.finish_calm q)
@[simp] theorem State.finish_countingPaused : (s.finish q).countingPaused = s.countingPaused := congrArg Calm.paused (s.finish_calm q)
@[simp] theorem State.finish_host : (s.finish q).host = s.host := congrArg Calm.host (s.finish_calm q)
@[simp] theorem State.finish_alerts : (s.finish q).alerts = s.alerts := congrArg Calm.alerts (s.finish_calm q)
@[simp] theorem State.finish_counters : (s.finish q).counters = s.counters := congrArg Calm.counters (s.finish_calm q)
@[simp] theorem State.finish_line_replyBuf : (s.finish q).line.replyBuf = s.line.replyBuf := congrArg Calm.replyBuf (s.finish_calm q)
@[simp] theorem State.finish_line_replyTimer : (s.finish q).line.replyTimer = s.line.replyTimer := congrArg Calm.timer (s.finish_calm q)
@[simp] theorem State.finish_line_quiet : (s.finish q).line.quiet = s.line.quiet := congrArg Calm.quiet (s.finish_calm q)
@[simp] theorem State.finish_line_captures : (s.finish q).line.captures = s.line.captures := congrArg Calm.captures (s.finish_calm q)
@[simp] theorem State.finish_line_handover : (s.finish q).line.handover = s.line.handover := congrArg Calm.handover (s.finish_calm q)
end

/-- After the end of an event no trigger of the walk is left over (R58). -/
@[simp] theorem State.finish_newHalts (q : List LineRequest) : (s.finish q).line.newHalts = [] := rfl

/-! ### Events -/

/-- What an event can do: in a running part the body and the end of the event, else nothing. -/
theorem event_cases {body : State → State} {t : State} (h : State.event body s = .next t) :
    (s.phase = .running ∧ t = State.finish s.line.queue (body s)) ∨ (s.phase ≠ .running ∧ t = s) := by
  unfold State.event at h
  split at h
  · rename_i hp
    exact .inl ⟨hp, (Host.Outcome.next.inj h).symm⟩
  · rename_i hp
    exact .inr ⟨hp, (Host.Outcome.next.inj h).symm⟩

theorem event_running {body : State → State} (h : s.phase = .running) :
    State.event body s = .next (State.finish s.line.queue (body s)) := by simp [State.event, h]

theorem plainEvent_running {body : State → State} (h : s.phase = .running) :
    State.plainEvent body s = .next (body s) := by simp [State.plainEvent, h]

/-- A command of a delivered event acts while one stands (R171; log 5). -/
theorem whenDue_due {n : Nat} {run : State → Result} (h : 0 < n) : State.whenDue n run s = run s := by
  simp [State.whenDue, h]

/-- With no such event delivered it changes nothing. -/
@[simp] theorem whenDue_zero (run : State → Result) : State.whenDue 0 run s = .next s := rfl

theorem plainEvent_cases {body : State → State} {t : State} (h : State.plainEvent body s = .next t) :
    (s.phase = .running ∧ t = body s) ∨ (s.phase ≠ .running ∧ t = s) := by
  unfold State.plainEvent at h
  split at h
  · rename_i hp
    exact .inl ⟨hp, (Host.Outcome.next.inj h).symm⟩
  · rename_i hp
    exact .inr ⟨hp, (Host.Outcome.next.inj h).symm⟩

end Sys2Proof.Machine
end

