-- ==== Sys2Proof/Laws/Image.lean ====
section
/-! SUPPORT. The image (R174): the canonical form as a statement on pairs of cells, that every operation over the image keeps
it, and what a read gives after each operation. -/

namespace Sys2Proof.Machine

/-! ## The canonical form -/

/-- Addresses rise, and no byte listed is erased. -/
def Rising (l : List Host.Cell) : Prop := l.Pairwise (fun a b => a.1 < b.1) ∧ ∀ c ∈ l, c.2 ≠ erased

theorem cellsWf_iff_rising (l : List Host.Cell) : cellsWf l = true ↔ Rising l := by
  induction l with
  | nil => simp [cellsWf, Rising]
  | cons c l ih =>
    cases l with
    | nil => simp [cellsWf, Rising]
    | cons d l =>
      simp only [cellsWf, Bool.and_eq_true, decide_eq_true_eq, ih, Rising, List.pairwise_cons, List.forall_mem_cons,
        bne_iff_ne]
      constructor
      · rintro ⟨⟨hc, hcd⟩, ⟨hd, hl⟩, hne⟩
        exact ⟨⟨⟨hcd, fun x hx => Nat.lt_trans hcd (hd x hx)⟩, hd, hl⟩, hc, hne⟩
      · rintro ⟨⟨⟨hcd, _⟩, hd, hl⟩, hc, hne⟩
        exact ⟨⟨hc, hcd⟩, ⟨hd, hl⟩, hne⟩

theorem rising_filter {l : List Host.Cell} (p : Host.Cell → Bool) (h : Rising l) : Rising (l.filter p) :=
  ⟨h.1.filter p, fun c hc => h.2 c (List.mem_filter.mp hc).1⟩

/-- A write lists nothing but its own cell and what was listed. -/
theorem mem_writeCell {a : Nat} {v : Byte} {l : List Host.Cell} {c : Host.Cell} (h : c ∈ writeCell a v l) :
    c = (a, v) ∧ v ≠ erased ∨ c ∈ l := by
  induction l with
  | nil =>
    simp only [writeCell] at h
    split at h
    · cases h
    · exact .inl ⟨by simpa using h, ‹_›⟩
  | cons d l ih =>
    simp only [writeCell] at h
    split at h
    · rcases List.mem_cons.mp h with rfl | h
      · exact .inr (.head _)
      · exact (ih h).imp_right (.tail _)
    · split at h
      · split at h
        · exact .inr (.tail _ h)
        · rcases List.mem_cons.mp h with rfl | h
          · exact .inl ⟨rfl, ‹_›⟩
          · exact .inr (.tail _ h)
      · split at h
        · exact .inr h
        · rcases List.mem_cons.mp h with rfl | h
          · exact .inl ⟨rfl, ‹_›⟩
          · exact .inr h

theorem rising_writeCell {l : List Host.Cell} (a : Nat) (v : Byte) (h : Rising l) : Rising (writeCell a v l) := by
  refine ⟨?_, fun c hc => ?_⟩
  · induction l with
    | nil => simp only [writeCell]; split <;> simp
    | cons d l ih =>
      have hl : Rising l := ⟨(List.pairwise_cons.mp h.1).2, fun c hc => h.2 c (.tail _ hc)⟩
      have hd := (List.pairwise_cons.mp h.1).1
      simp only [writeCell]
      split
      · refine List.pairwise_cons.mpr ⟨fun c hc => ?_, ih hl⟩
        rcases mem_writeCell hc with ⟨rfl, _⟩ | hc
        · assumption
        · exact hd c hc
      · split
        · split
          · exact hl.1
          · exact List.pairwise_cons.mpr ⟨fun c hc => by have := hd c hc; simp_all, hl.1⟩
        · split
          · exact h.1
          · refine List.pairwise_cons.mpr ⟨fun c hc => ?_, h.1⟩
            rcases List.mem_cons.mp hc with rfl | hc
            · show a < c.1; omega
            · have := hd c hc; show a < c.1; omega
  · rcases mem_writeCell hc with ⟨rfl, hv⟩ | hc
    · exact hv
    · exact h.2 c hc

/-- The cells of consecutive bytes stand from the first address on, and each holds its byte. -/
theorem mem_cellsOf {a : Nat} {l : List Byte} {c : Host.Cell} (h : c ∈ cellsOf a l) :
    a ≤ c.1 ∧ c.1 < a + l.length ∧ c.2 ≠ erased := by
  induction l generalizing a with
  | nil => cases h
  | cons b l ih =>
    simp only [cellsOf] at h
    split at h
    · have := ih h; exact ⟨by omega, by simp; omega, this.2.2⟩
    · rcases List.mem_cons.mp h with rfl | h
      · exact ⟨Nat.le_refl _, by simp, ‹_›⟩
      · have := ih h; exact ⟨by omega, by simp; omega, this.2.2⟩

theorem rising_cellsOf (a : Nat) (l : List Byte) : Rising (cellsOf a l) := by
  refine ⟨?_, fun c hc => (mem_cellsOf hc).2.2⟩
  induction l generalizing a with
  | nil => exact .nil
  | cons b l ih =>
    simp only [cellsOf]
    split
    · exact ih _
    · exact List.pairwise_cons.mpr ⟨fun c hc => (mem_cellsOf hc).1, ih _⟩

/-! ## Every operation over the image keeps the form -/

theorem Image.wf_write {m : Image} (a : Nat) (v : Byte) (h : m.wf = true) : (m.write a v).wf = true :=
  (cellsWf_iff_rising _).mpr (rising_writeCell a v ((cellsWf_iff_rising _).mp h))

theorem Image.wf_eraseSector {m : Image} (k : Nat) (h : m.wf = true) : (m.eraseSector k).wf = true :=
  (cellsWf_iff_rising _).mpr (rising_filter _ ((cellsWf_iff_rising _).mp h))

theorem Image.wf_unsettle {m : Image} (k : Nat) (h : m.wf = true) : (m.unsettle k).wf = true := h

theorem Image.wf_programSector {m : Image} (k : Nat) (l : List Byte) (h : m.wf = true) : (m.programSector k l).wf = true := by
  have hm := (cellsWf_iff_rising _).mp h
  have low := rising_filter (fun c => c.1 < 256 * k) hm
  have mid := rising_cellsOf (256 * k) (l.take 256)
  have high := rising_filter (fun c => 256 * k + 256 ≤ c.1) hm
  have len : (l.take 256).length ≤ 256 := by simp
  refine (cellsWf_iff_rising _).mpr ⟨?_, ?_⟩
  · refine List.pairwise_append.mpr ⟨List.pairwise_append.mpr ⟨low.1, mid.1, ?_⟩, high.1, ?_⟩
    · intro x hx y hy
      have := (mem_cellsOf hy).1
      simp only [List.mem_filter, decide_eq_true_eq] at hx
      omega
    · intro x hx y hy
      simp only [List.mem_filter, decide_eq_true_eq] at hy
      rcases List.mem_append.mp hx with hx | hx
      · simp only [List.mem_filter, decide_eq_true_eq] at hx; omega
      · have := (mem_cellsOf hx).2.1; omega
  · intro c hc
    rcases List.mem_append.mp hc with hc | hc
    · rcases List.mem_append.mp hc with hc | hc
      · exact low.2 c hc
      · exact mid.2 c hc
    · exact high.2 c hc

theorem reset_image_wf : State.reset.image.wf = true := rfl

/-! ## What a read gives -/

/-- In a rising list a listed cell is the one a search for its address finds. -/
theorem find_of_mem {l : List Host.Cell} (h : Rising l) {c : Host.Cell} (hc : c ∈ l) : l.find? (·.1 == c.1) = some c := by
  induction l with
  | nil => cases hc
  | cons d l ih =>
    rcases List.mem_cons.mp hc with rfl | hc
    · simp
    · have hlt := (List.pairwise_cons.mp h.1).1 c hc
      rw [List.find?_cons_of_neg (by simp; omega)]
      exact ih ⟨(List.pairwise_cons.mp h.1).2, fun x hx => h.2 x (.tail _ hx)⟩ hc

/-- An address that is not listed reads erased. -/
theorem Image.read_of_not_listed {m : Image} {a : Nat} (h : ∀ c ∈ m.cells, c.1 ≠ a) : m.read a = erased := by
  have : m.cells.find? (·.1 == a) = none := List.find?_eq_none.mpr fun c hc => by simpa using h c hc
  simp [Image.read, this]

/-- A listed address reads its byte. -/
theorem Image.read_of_listed {m : Image} (h : m.wf = true) {c : Host.Cell} (hc : c ∈ m.cells) : m.read c.1 = c.2 := by
  simp [Image.read, find_of_mem ((cellsWf_iff_rising _).mp h) hc]

/-- An erased sector reads FFh, and every other byte as before (R175). -/
theorem Image.read_eraseSector (m : Image) (k a : Nat) :
    (m.eraseSector k).read a = if a / 256 = k then erased else m.read a := by
  unfold Image.eraseSector Image.read
  induction m.cells with
  | nil => simp
  | cons c l ih =>
    by_cases hk : c.1 / 256 = k
    · rw [List.filter_cons_of_neg (by simp [inSector, hk]), ih]
      split
      · rfl
      · rw [List.find?_cons_of_neg]
        rintro h
        have : c.1 = a := by simpa using h
        exact ‹¬a / 256 = k› (this ▸ hk)
    · rw [List.filter_cons_of_pos (by simp [inSector, hk])]
      by_cases ha : c.1 = a
      · subst ha; simp [hk]
      · rw [List.find?_cons_of_neg (by simpa using ha), ih, List.find?_cons_of_neg (by simpa using ha)]

/-- The byte written is read back (R176). -/
theorem Image.read_write_same {m : Image} (a : Nat) (v : Byte) (h : m.wf = true) : (m.write a v).read a = v := by
  have hm := (cellsWf_iff_rising _).mp h
  unfold Image.write Image.read
  show (((writeCell a v m.cells).find? (·.1 == a)).map (·.2)).getD erased = v
  induction hcells : m.cells generalizing m with
  | nil => simp only [writeCell]; split <;> simp_all
  | cons c l ih =>
    rw [hcells] at hm
    have hl : Rising l := ⟨(List.pairwise_cons.mp hm.1).2, fun x hx => hm.2 x (.tail _ hx)⟩
    simp only [writeCell]
    split
    · rw [List.find?_cons_of_neg (by simp; omega)]
      exact ih (m := ⟨l, []⟩) ((cellsWf_iff_rising l).mpr hl) hl rfl
    · have tail : ∀ x ∈ l, ¬ x.1 = c.1 := fun x hx => Nat.ne_of_gt ((List.pairwise_cons.mp hm.1).1 x hx)
      split
      · split
        · rw [List.find?_eq_none.mpr fun x hx => by have := tail x hx; simp; omega]
          simp_all
        · simp
      · split
        · rw [List.find?_eq_none.mpr fun x hx => ?_]
          · simp_all
          · rcases List.mem_cons.mp hx with rfl | hx
            · simpa using ‹¬_ = a›
            · have := (List.pairwise_cons.mp hm.1).1 x hx; simp; omega
        · simp

/-- A write leaves every other byte. -/
theorem Image.read_write_other {m : Image} {a b : Nat} (v : Byte) (h : b ≠ a) : (m.write a v).read b = m.read b := by
  unfold Image.write Image.read
  show (((writeCell a v m.cells).find? (·.1 == b)).map (·.2)).getD erased = _
  induction m.cells with
  | nil => simp only [writeCell]; split <;> simp_all [Ne.symm h]
  | cons c l ih =>
    have hab : ((a, v) : Host.Cell).1 ≠ b := Ne.symm h
    simp only [writeCell]
    split
    · by_cases hc : c.1 = b
      · simp [hc]
      · rw [List.find?_cons_of_neg (by simpa using hc), ih, List.find?_cons_of_neg (by simpa using hc)]
    · split
      · have hc : c.1 ≠ b := by omega
        split
        · rw [List.find?_cons_of_neg (by simpa using hc)]
        · rw [List.find?_cons_of_neg (by simpa using hab), List.find?_cons_of_neg (by simpa using hc)]
      · split
        · rfl
        · rw [List.find?_cons_of_neg (by simpa using hab)]

end Sys2Proof.Machine
end

