-- ==== Sys2Proof/Laws/Jobs.lean ====
section
/-! SUPPORT. The job queue (R51) and the reservation table (R87): what inserting, replacing and removing an entry does to the
order, to the sum and to the entries of other openings. -/

namespace Sys2Proof.Machine

/-! ## The order of R51 -/

theorem Job.before_trans {a b c : Job} (h : a.before b = true) (k : b.before c = true) : a.before c = true := by
  unfold Job.before at *
  grind

theorem Job.before_of_not_before {a b : Job} (h : a.before b = false) (hne : a.opening ≠ b.opening) : b.before a = true := by
  unfold Job.before at *
  grind

/-! ## Inserting a job -/

theorem mem_insertJob {j x : Job} {l : List Job} : x ∈ insertJob j l ↔ x = j ∨ x ∈ l := by
  induction l with
  | nil => simp [insertJob]
  | cons y l ih =>
    simp only [insertJob]
    split
    · simp
    · simp only [List.mem_cons, ih]; tauto

/-- A job whose opening has none goes to its place, and the order stays. -/
theorem jobsOrdered_insertJob {j : Job} {l : List Job} (h : JobsOrdered l) (hj : ∀ x ∈ l, x.opening ≠ j.opening) :
    JobsOrdered (insertJob j l) := by
  unfold JobsOrdered at *
  induction l with
  | nil => simp [insertJob]
  | cons y l ih =>
    obtain ⟨hy, hl⟩ := List.pairwise_cons.mp h
    simp only [insertJob]
    split
    · refine List.pairwise_cons.mpr ⟨fun x hx => ⟨?_, (hj x hx).symm⟩, h⟩
      rcases List.mem_cons.mp hx with rfl | hx
      · assumption
      · exact Job.before_trans ‹_› (hy x hx).1
    · refine List.pairwise_cons.mpr ⟨fun x hx => ?_, ih hl fun x hx => hj x (.tail _ hx)⟩
      rcases mem_insertJob.mp hx with rfl | hx
      · exact ⟨Job.before_of_not_before (Bool.eq_false_iff.mpr ‹¬ (x.before y) = true›) (hj y (.head _)).symm, hj y (.head _)⟩
      · exact hy x hx

theorem jobsOrdered_filter {l : List Job} (p : Job → Bool) (h : JobsOrdered l) : JobsOrdered (l.filter p) :=
  List.Pairwise.filter p h

theorem mem_otherJobs {s : State} {i : Nat} {x : Job} : x ∈ s.otherJobs i ↔ x ∈ s.jobs ∧ x.opening ≠ i := by
  simp [State.otherJobs]

/-- Putting a job keeps the order, and one job per opening. -/
theorem jobsOrdered_putJob {s : State} (j : Job) (h : JobsOrdered s.jobs) : JobsOrdered (s.putJob j).jobs :=
  jobsOrdered_insertJob (jobsOrdered_filter _ h) fun _ hx => (mem_otherJobs.mp hx).2

/-- In an ordered queue the job found for an opening is the one job there that has it. -/
theorem job?_eq_some_iff {s : State} (h : JobsOrdered s.jobs) {i : Nat} {j : Job} :
    s.job? i = some j ↔ j ∈ s.jobs ∧ j.opening = i := by
  unfold State.job? JobsOrdered at *
  constructor
  · intro hf
    exact ⟨List.mem_of_find?_eq_some hf, by simpa using List.find?_some hf⟩
  · rintro ⟨hm, rfl⟩
    generalize s.jobs = l at hm h
    induction l with
    | nil => cases hm
    | cons x l ih =>
      obtain ⟨hx, hl⟩ := List.pairwise_cons.mp h
      rcases List.mem_cons.mp hm with rfl | hm
      · simp
      · rw [List.find?_cons_of_neg (by simpa using (hx j hm).2)]
        exact ih hm hl

theorem find_insertJob_same (j : Job) {l : List Job} (h : ∀ x ∈ l, x.opening ≠ j.opening) :
    (insertJob j l).find? (·.opening == j.opening) = some j := by
  induction l with
  | nil => simp [insertJob]
  | cons y l ih =>
    simp only [insertJob]
    split
    · simp
    · rw [List.find?_cons_of_neg (by simpa using h y (.head _))]
      exact ih fun x hx => h x (.tail _ hx)

theorem find_insertJob_other (j : Job) (l : List Job) {i : Nat} (h : i ≠ j.opening) :
    (insertJob j l).find? (·.opening == i) = l.find? (·.opening == i) := by
  have hj : ¬ (j.opening == i) = true := by simpa using h.symm
  induction l with
  | nil => simp [insertJob, List.find?_cons_of_neg, hj]
  | cons y l ih =>
    simp only [insertJob]
    split
    · rw [List.find?_cons_of_neg (by simpa using hj)]
    · by_cases hy : y.opening = i
      · simp [hy]
      · rw [List.find?_cons_of_neg (by simpa using hy), ih, List.find?_cons_of_neg (by simpa using hy)]

/-- The job put is the one found for its opening. -/
@[simp] theorem job?_putJob_same (s : State) (j : Job) : (s.putJob j).job? j.opening = some j :=
  find_insertJob_same j fun _ hx => (mem_otherJobs.mp hx).2

/-- Removing the jobs of one opening leaves what is found for another. -/
theorem find_filter_other (l : List Job) {i k : Nat} (h : k ≠ i) :
    (l.filter (·.opening != i)).find? (·.opening == k) = l.find? (·.opening == k) := by
  induction l with
  | nil => rfl
  | cons y l ih =>
    by_cases hy : y.opening = i
    · rw [List.filter_cons_of_neg (by simpa using hy), ih, List.find?_cons_of_neg (by simpa [hy] using h.symm)]
    · rw [List.filter_cons_of_pos (by simpa using hy)]
      by_cases hk : y.opening = k
      · simp [hk]
      · rw [List.find?_cons_of_neg (by simpa using hk), ih, List.find?_cons_of_neg (by simpa using hk)]

/-- Putting a job leaves the jobs of the other openings. -/
theorem job?_putJob_other (s : State) (j : Job) {i : Nat} (h : i ≠ j.opening) : (s.putJob j).job? i = s.job? i :=
  (find_insertJob_other j _ h).trans (find_filter_other s.jobs h)

/-! ## Reservations -/

theorem reservedSum_filter_le (l : List Reservation) (p : Reservation → Bool) : reservedSum (l.filter p) ≤ reservedSum l := by
  unfold reservedSum
  induction l with
  | nil => simp
  | cons r l ih =>
    by_cases h : p r = true
    · simp only [List.filter_cons_of_pos h, List.map_cons, List.sum_cons]; omega
    · simp only [List.filter_cons_of_neg h, List.map_cons, List.sum_cons]; omega

/-- A release never raises the sum (R89). -/
theorem reservedSum_dropReservation (s : State) (i : Nat) : reservedSum (s.dropReservation i).reserv ≤ reservedSum s.reserv :=
  reservedSum_filter_le _ _

/-- A release takes the opening's entry away. -/
theorem reservation?_dropReservation_same (s : State) (i : Nat) : (s.dropReservation i).reservation? i = none := by
  simp [State.dropReservation, State.reservation?]

/-- What a job's path can do to the table (R89): nothing, or take away the opening's entry and trigger the walk. -/
theorem release_eq (s : State) (i : Nat) :
    s.release i = s ∨ s.release i = s.dropReservation i
      ∧ ∃ r, s.reservation? i = some r ∧ r.marked = false ∧ r.phase.isResidual = false := by
  unfold State.release
  split
  · exact .inl rfl
  · split
    · exact .inl rfl
    · rename_i r hr hm
      simp only [Bool.or_eq_true, not_or, Bool.not_eq_true] at hm
      exact .inr ⟨rfl, r, hr, hm⟩

end Sys2Proof.Machine
end

