-- ==== Sys2Proof/Tests/Slice0.lean ====
section
/-! SUPPORT. Tests of the model: the ranges of operands, the manual's worked cases, and for each statement with premises a
state and operands that meet them. Expected values are the manual's; the comment names the place. -/

namespace Sys2Proof.Tests

set_option Elab.async false

open Sys2Proof.Machine

/-! ## The bench: the site of the manual's rain front (chapters 2 to 4) -/

/-- A sash of the rain front. -/
def sash (i speed inrush run duration : Nat) : OpeningCfg :=
  { defaultCfg i with
    enabled := true, speed := speed, inrush := inrush, run := run, inrushDuration := duration, travel := 4000 }

/-- A live position. -/
def seen (position : Nat) : OpeningLive := { resetLive with position := some position }

/-- A node that is PRESENT and not due. -/
def here : NodeRecord := { freshNode 60000 with presence := .present }

/-- The rain front's site at T = 5000 (chapter 3, "one walk at two budgets"): input 0 has been WETTING since 4990, and
the events of an advance that carried have been delivered. -/
def bench : State :=
  { State.reset with
    phase := .running
    tenths := 50000
    due := ⟨1, 1, 1, 1, 1, []⟩
    site := { defaultSite with budget := 160, rainMask := 1, factorK := 448 }
    cfgs := ((((defaultCfgs.setIfInBounds 20 (sash 20 50 40 15 6)).setIfInBounds 21 (sash 21 50 40 15 6)).setIfInBounds 3
      (sash 3 40 30 12 8)).setIfInBounds 4 (sash 4 40 30 12 8)).setIfInBounds 12 (sash 12 60 30 12 8)
    lives := ((((State.reset.lives.setIfInBounds 20 (seen 1000)).setIfInBounds 21 (seen 1000)).setIfInBounds 3
      (seen 600)).setIfInBounds 4 (seen 300)).setIfInBounds 12 (seen 900)
    nodes := ((((State.reset.nodes.setIfInBounds 20 here).setIfInBounds 21 here).setIfInBounds 3 here).setIfInBounds 4
      here).setIfInBounds 12 here
    groups := ((State.reset.groups.setIfInBounds 0
        ⟨{ defaultGroup with bearing := .sector 6, members := [3, 4], leeGrace := 120 }, defaultGroup, false⟩).setIfInBounds
      1 ⟨{ defaultGroup with bearing := .sector 2, members := [12], leeGrace := 120, gustLimit := 150, meanLimit := 300 },
        defaultGroup, false⟩).setIfInBounds 2
      ⟨{ defaultGroup with bearing := .roof, chained := true, members := [20, 21] }, defaultGroup, false⟩
    weather := { resetWeather with
      direction := some 6, rain := resetWeather.rain.setIfInBounds 0 ⟨500, .wet, .wetting, some 4990, 0, 0⟩ }
    supply := ⟨[220, 220, 220, 220], false, 0⟩
    store := ⟨.idle, true, false, none⟩ }

/-- The next state of an outcome; the reset state for a stop, which no command makes. -/
def after (o : Host.Outcome State Fault Refusal) : State :=
  match o with
  | .next t => t
  | .fault _ => State.reset
  | .refused _ => State.reset

/-- Whether an outcome is a next state. -/
def isNext (o : Host.Outcome State Fault Refusal) : Bool :=
  match o with
  | .next _ => true
  | .fault _ => false
  | .refused _ => false

theorem next_after (o : Host.Outcome State Fault Refusal) (h : isNext o = true) : o = .next (after o) := by
  cases o with
  | next _ => rfl
  | fault _ => nomatch h
  | refused _ => nomatch h

/-- A manual job of opening 3, to be changed by each use. -/
def job3 : Job where
  opening := 3
  target := 0
  rank := .manual
  deadline := 5100
  estimate := 16
  state := .queued
  retries := 0
  missed := false
  startedAt := none
  tag := some 17
  cause := none

/-- The bench with one job. -/
def withJob (j : Job) : State := { bench with jobs := [j] }

/-- The bench with a request in flight. -/
def flying (r : LineRequest) (stage : Stage) : State :=
  { bench with line := { resetLine with flight := some ⟨r, 37, 1, 0, stage, false⟩, seq := 38 } }

/-- A POLL of opening 3 in its reply window. -/
def polling : State := flying (.poll 4 3) .window

/-- No group of the state waits for an apply, as a test over its eight groups. -/
theorem no_apply_waits (s : State) (h : s.groups.toList.all (fun g => !g.applyRequested) = true) : s.noApplyWaits := by
  intro g
  unfold State.group
  rcases hg : s.groups[g]? with _ | x
  · rfl
  · have hx : x ∈ s.groups.toList := by
      rw [Vector.getElem?_eq_some_iff] at hg
      obtain ⟨_, rfl⟩ := hg
      simp
    simpa using List.all_eq_true.mp h x hx

/-! ## Operands outside their ranges -/

theorem test_opening_48_is_refused : (Instr.pollDue 48).wellFormed = false ∧ (Instr.pollDue 47).wellFormed = true := by decide
theorem test_zone_4_is_refused : (Instr.cadenceTurnover 4).wellFormed = false ∧ (Instr.cadenceTurnover 3).wellFormed = true := by
  decide
theorem test_forecast_tag_0_is_refused :
    (Instr.forecastExpiry 0).wellFormed = false ∧ (Instr.forecastExpiry 256).wellFormed = false
      ∧ (Instr.forecastExpiry 255).wellFormed = true := by decide
theorem test_level_1024_is_refused :
    (Instr.sampleEvent 0 0 #v[0, 0, 0, 1024]).wellFormed = false ∧ (Instr.sampleEvent 0 0 #v[0, 0, 0, 1023]).wellFormed = true := by
  decide
theorem test_tag_256_is_refused : (Instr.siteRead 256).wellFormed = false ∧ (Instr.siteRead 255).wellFormed = true := by decide
theorem test_two_byte_target : (Instr.move 0 0 65536).wellFormed = false ∧ (Instr.move 0 0 65535).wellFormed = true := by decide
theorem test_hold_of_256_minutes_is_refused : (Instr.hold 0 256 1).wellFormed = false ∧ (Instr.hold 0 1 256).wellFormed = false := by
  decide
theorem test_forecast_words_are_refused :
    (Instr.forecast 0 1 65536 0 0 0).wellFormed = false ∧ (Instr.forecast 0 1 0 0 0 256).wellFormed = false := by decide
theorem test_alert_flags_are_two_bytes : (Instr.alertsAck 0 65536).wellFormed = false := by decide
theorem test_group_read_copy_is_a_byte : (Instr.groupRead 0 0 256).wellFormed = false := by decide
theorem test_opening_write_fields :
    (Instr.openingWrite 0 0 { (defaultCfg 0).wire with travel := 65536 }).wellFormed = false
      ∧ (Instr.openingWrite 0 0 { (defaultCfg 0).wire with zone := 256 }).wellFormed = false
      ∧ (Instr.openingWrite 0 0 (defaultCfg 0).wire).wellFormed = true := by decide
theorem test_group_write_fields :
    (Instr.groupWrite 0 0 { defaultGroup.wire with members := [256] }).wellFormed = false
      ∧ (Instr.groupWrite 0 0 { defaultGroup.wire with members := List.replicate 239 0 }).wellFormed = false
      ∧ (Instr.groupWrite 0 0 defaultGroup.wire).wellFormed = true := by decide +kernel
theorem test_site_write_fields :
    (Instr.siteWrite 0 { defaultSite.wire with budget := 65536 }).wellFormed = false
      ∧ (Instr.siteWrite 0 { defaultSite.wire with tones := #v[0, 0, 0, 256] }).wellFormed = false
      ∧ (Instr.siteWrite 0 defaultSite.wire).wellFormed = true := by decide +kernel

/-! ## The manual's worked cases -/

/-- The bench with the sample waiting that confirms the rain. -/
def sampling : State := { bench with pending := [.sampleEvent 5 5 #v[488, 0, 0, 0]] }

/-- The bench one sample later: the rain front is confirmed (chapters 2 and 3, T = 5000). -/
def rainFront : State := after (step sampling)

theorem sampling_steps : step sampling = .next rainFront := next_after _ (by decide +kernel)

/-- Chapter 2, "a rain front meets a change of wind": the three deadlines. -/
theorem test_rain_front_deadlines :
    (rainFront.threat 0).deadline = some 5000 ∧ (rainFront.threat 1).deadline = some 5120
      ∧ (rainFront.threat 2).deadline = some 5000 := by decide +kernel

/-- Chapter 3, "one walk at two budgets", budget 160: order, estimates, starts and the sum of 130. -/
theorem test_rain_front_walk :
    rainFront.jobs.map (fun j => (j.opening, j.estimate, j.key, decide (j.state = .dispatching)))
        = [(20, 21, 4979, true), (21, 21, 4979, false), (3, 16, 4984, true), (4, 9, 4991, true), (12, 16, 5104, true)]
      ∧ reservedSum rainFront.reserv = 130 := by decide +kernel

/-- The same walk at an effective budget of 96 (chapter 4, "a sagging supply", and chapter 3): 20 and 3 start. -/
theorem test_rain_front_walk_at_96 :
    (let s : State := { bench with supply := ⟨[210, 208, 207, 208], false, 0⟩ }
     s.beff = 96 ∧ ((after (exec (.sampleEvent 5 5 #v[488, 0, 0, 0]) s)).reserv.map (·.opening)) = [3, 20]) := by
  decide +kernel

/-- Chapter 2, "wind on a lee facade", T = 201: 25 pulses make 175, at group 1's raised limit of 170. -/
theorem test_lee_facade_wind :
    (let s : State := { bench with weather := { bench.weather with ring := [100, 100, 133, 140], pulses := 25 } }
     let t := after (exec (.sampleEvent 5 5 #v[0, 0, 0, 0]) s)
     t.weather.gust = 175 ∧ (t.threat 1).wind = some 5000 ∧ (t.threat 0).wind = none) := by decide +kernel

/-- Chapter 4, "into cutoff and out", events 4 and 6. -/
theorem test_cutoff_begins_and_ends :
    (let t := after (exec (.supplyEvent 186) { bench with supply := ⟨[208, 195, 190, 188], false, 2⟩ })
     t.supply.cutoff = true ∧ t.supply.volts = 189 ∧ t.beff = 0)
      ∧ (let t := after (exec (.supplyEvent 201) { bench with supply := ⟨[190, 188, 186, 196], true, 0⟩ })
         t.supply.cutoff = false ∧ t.supply.volts = 192 ∧ t.beff = 10) := by decide +kernel

/-- Chapter 4, "four starts settle": at tenths 50 006 opening 20 passes to RUN with 15. -/
theorem test_inrush_settles :
    (let s : State := { bench with tenths := 50006, reserv := [⟨3, 30, .inrush 50009, false⟩, ⟨20, 40, .inrush 50006, false⟩] }
     (after (exec (.supplyEvent 220) s)).reserv = [⟨3, 30, .inrush 50009, false⟩, ⟨20, 15, .run, false⟩]) := by decide +kernel

/-- R67: a job whose estimate was 16 s times out at 43 s, not at 42. -/
theorem test_motion_timeout_at_43 :
    ((after (exec (.motionTimeout 3) (withJob { job3 with state := .running, startedAt := some 4957 }))).job? 3).map (·.state)
        = some (.stopping .failedTimeout)
      ∧ ((after (exec (.motionTimeout 3) (withJob { job3 with state := .running, startedAt := some 4958 }))).job? 3).map
        (·.state) = some .running := by decide +kernel

/-- Section 6.2: POLL to node 5 with sequence 0, and a DRIVE to node 21 with sequence 37 and target 2400. -/
theorem test_request_characters :
    ((LineRequest.poll 5 0).frame 0).map (fun c => (c.value, c.mark)) = [(5#8, true), (16#8, false), (0#8, false), (110#8, false)]
      ∧ (((LineRequest.drive 21 20 2400).frame 37).map (·.value)).take 5 = [21#8, 33#8, 37#8, 9#8, 96#8] := by decide +kernel

/-- Section 6.1: start bit low, value 5 least significant bit first, the mark ninth, even parity over ten bits, stop bit
high; before and after its frame the line rests high. -/
theorem test_character_bits :
    LineChar.bits (soundChar true 5#8) = [false, true, false, true, false, false, false, false, false, true, true, true]
      ∧ (after (exec .arbiterStart { bench with line := { resetLine with queue := [.poll 5 4] } })).outputs.ltx.length = 48
      ∧ serialLevel bench.outputs.ltx 0 = true := by decide +kernel

/-- Section 5.4: lamp 21 lies on scan line 2 and lamp line 5; 2 ms are 65.5 crystal cycles, so line 2 begins at cycle 132. -/
theorem test_scan_of_lamp_21 :
    (let p : Panel := { resetPanel with lamps := resetPanel.lamps.set 21 .on, cycles := 132 }
     { bench with panel := p }.outputs.pscan = [false, false, true, false, false, false, false, false]
      ∧ { bench with panel := p }.outputs.plamp = [false, false, false, false, false, true, false, false]
      ∧ { p with cycles := 131 }.scanLine = 1 ∧ { p with cycles := 524 }.scanLine = 7) := by decide +kernel

/-- R171: without an advance there is no event to take; the advance to tenths 50 010 brings all five. -/
theorem test_events_follow_advances :
    (let s : State := { bench with tenths := 50009, due := nothingDue }
     after (exec (.supplyEvent 100) s) = s
      ∧ (after (exec .tenthsAdvance s)).due = ⟨1, 1, 1, 1, 1, []⟩
      ∧ (after (exec (.supplyEvent 100) (after (exec .tenthsAdvance s)))).supply.ring = [220, 220, 220, 100]) := by
  decide +kernel

/-- R135: the outcome of a HALT is handed off before the coverage check, so the job ends HALTED under a threat too, and
the check then makes a close job. -/
theorem test_outcome_before_coverage :
    (let s : State := { flying (.halt 4 3) .window with
       jobs := [{ job3 with state := .stopping .halted }]
       nodes := bench.nodes.setIfInBounds 3 { here with coverageOwed := true }
       threats := bench.threats.setIfInBounds 0 { resetThreat with rain := some 5000 } }
     let t := after (exec (.replyComplete (replyChars 4 (statusCovered 37 600 0 0 0))) s)
     (t.live 3).lastOutcome = .halted ∧ (t.job? 3).map (·.rank) = some .rain) := by decide +kernel

/-- R73: the walk runs also when no member qualifies, and starts a job that has waited. -/
theorem test_group_close_runs_the_walk :
    (after (exec (.groupClose 9 7) (withJob job3))).jobs.map (·.state) = [.dispatching] := by decide +kernel

/-- R94, R172: the dividers run on through the hold of a power-on reset. -/
theorem test_dividers_run_in_the_hold :
    (let s : State := { bench with phase := .heldPower, nreset := false, divider := 7 }
     (after (step s)).divider = 8 ∧ (after (exec .nresetRelease (after (step s)))).divider = 8) := by decide +kernel

/-- Section 6.4, "a full queue takes two halts", step 2: the halt of opening 44 displaces the newest POLL. -/
theorem test_halt_displaces_newest_poll :
    (let s : State := { withJob { job3 with state := .running } with
       line := { resetLine with
         handover := .granted
         queue := [.poll 30 29, .poll 31 30] ++ (List.range 14).map (fun k => .drive (k + 40) (k + 39) 0) } }
     let q := (after (exec (.stop 9 3) s)).line.queue
     q.length = 16 ∧ q.head? = some (.poll 30 29) ∧ q.getLast? = some (.halt 4 3) ∧ searchCount q = 1) := by decide +kernel

/-- Section 6.7, "the tool on the line": with a POLL in flight the request drains, and the reply's end grants. -/
theorem test_service_drains_then_grants :
    (let s := after (exec .svcreqAsserted polling)
     let t := after (exec (.replyComplete (replyChars 4 (statusCovered 37 600 0 0 0))) s)
     s.line.handover = .draining ∧ s.countingPaused = true ∧ t.line.handover = .granted ∧ t.alertSet .serviceActive = true) := by
  decide +kernel

/-- Section 3.6, "CANCEL on either side of dispatch". -/
theorem test_cancel_before_and_after_dispatch :
    (after (exec (.cancel 9 3) (withJob job3))).jobs = []
      ∧ (after (exec (.cancel 9 3) (withJob { job3 with state := .dispatching }))).jobs = [{ job3 with state := .dispatching }] := by
  decide +kernel

/-- Section 8.1: the check of the nine bytes 31h to 39h is 29B1h; a frame is n + 4 bytes long. -/
theorem test_frame_length : (frameBytes 0x0D 7 [3#8, 2#8]).length = 8 ∧ (frameBytes 0x0D 7 [3#8, 2#8]).take 6
    = [0x5B#8, 4#8, 0x0D#8, 7#8, 3#8, 2#8] := by decide +kernel

/-- No row of the table gives bits, so no word spells a command. -/
theorem test_no_word_spells_a_command : decodeTableWord 16 0x5B04 = none ∧ bench.withFetchWord 16 0x5B04 = bench := by
  decide +kernel

/-! ## Witnesses: the queue, the resets and the Time Base -/

theorem witness_StepTakesFrontCommand :
    ∃ (s : State) (c : Instr) (rest : List Instr), s.pending = c :: rest :=
  ⟨{ bench with pending := [.panelFrame] }, .panelFrame, [], rfl⟩

theorem witness_PowerOnBeginsAndWaits :
    (∃ s : State, s.phase = .crystalWait ∧ s.nreset = true) ∧ ∃ s : State, s.phase = .crystalWait ∧ s.nreset = false :=
  ⟨⟨{ bench with phase := .crystalWait }, rfl, rfl⟩, { bench with phase := .crystalWait, nreset := false }, rfl, rfl⟩

theorem witness_PinResetHoldsAndReleases :
    (∃ s : State, s.phase = .running ∧ s.store.state = .idle)
      ∧ (∃ s : State, s.phase = .running ∧ s.store.state = .programming 3)
      ∧ (∃ s : State, s.phase = .heldPin) ∧ ∃ s : State, s.phase = .heldPower :=
  ⟨⟨bench, rfl, rfl⟩, ⟨{ bench with store := ⟨.programming 3, true, false, none⟩ }, rfl, rfl⟩,
    ⟨{ bench with phase := .heldPin }, rfl⟩, { bench with phase := .heldPower }, rfl⟩

/-- The default configuration, as a save would copy it. -/
def defaultCopy : ConfigCopy := ⟨defaultSite, defaultCfgs, Vector.replicate 8 defaultGroup⟩

theorem witness_LoadTakesTheImage_invalid :
    ∃ s : State, s.phase = .loading ∧ s.image.valid = false ∧ s.host = resetHost ∧ s.alerts = 0 ∧ s.svcreq = false :=
  ⟨State.reset, by decide +kernel⟩

/-- A valid image. Its content is FFh but for two bytes, after which the check register stays at 5FEAh. -/
def validImage : Image := ⟨[(0, 0x5F#8), (1, 0xEA#8), (773, 0x5F#8), (774, 0xEA#8)], []⟩

theorem check_stays (n : Nat) : (List.replicate n 0xFF#8).foldl crc16Step 0x5FEA#16 = 0x5FEA#16 := by
  induction n with
  | zero => rfl
  | succ n ih =>
    rw [List.replicate_succ, List.foldl_cons, show crc16Step 0x5FEA#16 0xFF#8 = 0x5FEA#16 by decide +kernel]
    exact ih

theorem validImage_valid : validImage.valid = true := by
  have taken : validImage.content.take 773 = 0x5F#8 :: 0xEA#8 :: List.replicate 771 0xFF#8 := by decide +kernel
  have left : validImage.content.drop 773 = [0x5F#8, 0xEA#8] := by decide +kernel
  have rest : (validImage.unsettled.isEmpty && !(validImage.content.all (· == erased))
      && (validImage.lockByte == erased || validImage.lockByte == lockSet)) = true := by decide +kernel
  have check : crc16 (0x5F#8 :: 0xEA#8 :: List.replicate 771 0xFF#8) = 0x5FEA#16 := by
    unfold crc16
    rw [List.foldl_cons, List.foldl_cons, show crc16Step (crc16Step 0xFFFF#16 0x5F#8) 0xEA#8 = 0x5FEA#16 by decide +kernel]
    exact check_stays 771
  have same : (crc16Bytes (validImage.content.take 773) == validImage.content.drop 773) = true := by
    rw [taken, left, crc16Bytes, check]
    decide +kernel
  simp only [Bool.and_eq_true] at rest
  unfold Image.valid
  simp only [Bool.and_eq_true]
  exact ⟨⟨rest.1, same⟩, rest.2⟩

theorem witness_LoadTakesTheImage_valid :
    ∃ s : State, s.phase = .loading ∧ s.image.valid = true ∧ s.host = resetHost ∧ s.svcreq = false :=
  ⟨{ State.reset with image := validImage }, rfl, validImage_valid, rfl, rfl⟩

theorem witness_LoadTakesTheImage_service :
    ∃ s : State, s.phase = .loading ∧ s.svcreq = true ∧ s.host = resetHost ∧ s.alerts = 0 ∧ s.line = resetLine
      ∧ s.windOrRain = false :=
  ⟨{ State.reset with svcreq := true }, by decide +kernel⟩

theorem witness_SavedConfigurationLoadsBack : ∃ c : ConfigCopy, c.storable = true := ⟨defaultCopy, by decide +kernel⟩

theorem witness_TimeBase :
    (∃ s : State, s.phase = .running ∧ s.tenths % 10 = 9 ∧ s.pending = [])
      ∧ (∃ s : State, s.phase = .loading ∧ s.cause = .restart)
      ∧ ∃ s : State, s.due.supply = 0 ∧ s.due.warnings = 0 ∧ s.due.nodes = 0 ∧ s.due.sample = 0 ∧ s.due.supervision = 0 :=
  ⟨⟨{ bench with tenths := 50009 }, rfl, by decide, rfl⟩, ⟨{ State.reset with cause := .restart }, rfl, rfl⟩,
    { bench with due := nothingDue }, by decide +kernel⟩

/-! ## Witnesses: motor supply -/

/-- The three cases of Beff at their bounds (R81): 220 and above, 190 and below, and between. -/
theorem witness_EffectiveBudget :
    bench.site.cutoffVoltage < bench.site.derateStart ∧ bench.beff = 160
      ∧ ({ bench with supply := ⟨[190], false, 0⟩ } : State).beff = 0
      ∧ ({ bench with supply := ⟨[219], false, 0⟩ } : State).beff = 154
      ∧ ({ bench with supply := ⟨[191], false, 0⟩ } : State).beff = 5 := by decide +kernel

theorem witness_SupplyReadings :
    (∃ (s : State) (raw : Nat), s.phase = .running ∧ 0 < s.due.supply ∧ s.supply.cutoff = false
        ∧ (min raw 400 ≤ s.site.cutoffVoltage → s.supply.lowRun < 2) ∧ min raw 400 = s.site.cutoffVoltage)
      ∧ (∃ (s : State) (raw : Nat), s.phase = .running ∧ 0 < s.due.supply ∧ s.supply.cutoff = true
        ∧ min raw 400 = s.site.cutoffVoltage + 10)
      ∧ ∃ (s : State) (raw : Nat), s.phase = .running ∧ 0 < s.due.supply ∧ s.supply.cutoff = true
        ∧ min raw 400 = s.site.cutoffVoltage + 9 :=
  ⟨⟨{ bench with supply := ⟨[], false, 1⟩ }, 190, by decide +kernel⟩, ⟨{ bench with supply := ⟨[], true, 0⟩ }, 200, by decide +kernel⟩,
    { bench with supply := ⟨[], true, 0⟩ }, 199, by decide +kernel⟩

theorem witness_CutoffBegins :
    ∃ (s : State) (raw : Nat), (s.phase = .running ∧ 0 < s.due.supply ∧ s.supply.cutoff = false ∧ s.supply.lowRun = 2
      ∧ min raw 400 ≤ s.site.cutoffVoltage) ∧ s.noApplyWaits ∧ JobsOrdered s.jobs :=
  ⟨{ rainFront with supply := ⟨[208, 195, 190, 188], false, 2⟩ }, 190, by decide +kernel, no_apply_waits _ (by decide +kernel),
    by unfold JobsOrdered; decide +kernel⟩

/-- A job in each state at the beginning of a cutoff, its opening held and not, and the entries at their expiries. -/
theorem witness_CutoffBegins_jobs :
    ∀ (state : JobState) (held : List HeldEntry), ∃ (s : State) (raw i : Nat) (j : Job), (s.phase = .running ∧ 0 < s.due.supply
        ∧ s.supply.cutoff = false ∧ s.supply.lowRun = 2 ∧ min raw 400 ≤ s.site.cutoffVoltage) ∧ s.noApplyWaits
      ∧ JobsOrdered s.jobs ∧ s.job? i = some j ∧ i < 48 ∧ j.state = state ∧ s.held = held
      ∧ ⟨20, 40, .inrush s.tenths, false⟩ ∈ s.reserv ∧ ⟨21, 40, .residual s.tenths, false⟩ ∈ s.reserv := by
  intro state held
  exact ⟨{ withJob { job3 with state := state } with
      supply := ⟨[208, 195, 190, 188], false, 2⟩, held := held
      reserv := [⟨20, 40, .inrush 50000, false⟩, ⟨21, 40, .residual 50000, false⟩] }, 190, 3, { job3 with state := state },
    ⟨rfl, Nat.one_pos, rfl, rfl, Nat.le_refl 190⟩, no_apply_waits bench (by decide +kernel), List.pairwise_singleton _ _,
    rfl, by decide, rfl, rfl, List.mem_cons_self, List.mem_cons_of_mem _ List.mem_cons_self⟩

theorem witness_ReservationsExpire_inrush :
    ∃ (s : State) (r : Reservation) (e : Nat), s.phase = .running ∧ 0 < s.due.supply ∧ (s.reserv.map (·.opening)).Nodup ∧ r ∈ s.reserv
      ∧ r.phase = .inrush e ∧ e ≤ s.tenths :=
  ⟨{ bench with reserv := [⟨20, 40, .inrush 50000, false⟩] }, ⟨20, 40, .inrush 50000, false⟩, 50000, by decide +kernel⟩

theorem witness_ReservationsExpire_residual :
    ∃ (s : State) (r : Reservation) (e : Nat), s.phase = .running ∧ 0 < s.due.supply ∧ (s.reserv.map (·.opening)).Nodup ∧ r ∈ s.reserv
      ∧ r.phase = .residual e ∧ e ≤ s.tenths :=
  ⟨{ bench with reserv := [⟨20, 15, .residual 50000, false⟩] }, ⟨20, 15, .residual 50000, false⟩, 50000, by decide +kernel⟩

theorem witness_ReservationsStayWithinBudget :
    ∃ s t : State, CurrentsFit s.image.config.cfgs ∧ ReservationsFit s ∧ step s = .next t :=
  ⟨sampling, rainFront, by unfold CurrentsFit; decide +kernel,
    ⟨by decide +kernel, by decide +kernel, (fun _ h => nomatch h), by unfold CurrentsFit; decide +kernel, by decide +kernel⟩,
    sampling_steps⟩

/-! ## Witnesses: weather -/

/-- A sample that is due, and a pulse between samples, both at the last pulse counted. -/
theorem witness_WindSpeed :
    (∃ s : State, s.phase = .running ∧ 0 < s.due.sample ∧ s.weather.pulses = 4095)
      ∧ ∃ s : State, s.phase = .running ∧ s.due.sample = 0 ∧ s.weather.pulses = 4095 :=
  ⟨⟨{ bench with weather := { resetWeather with pulses := 4095 } }, by decide +kernel⟩,
    { bench with weather := { resetWeather with pulses := 4095 }, due := nothingDue }, by decide +kernel⟩

theorem witness_GustAndMean :
    (∃ w : Weather, w.ring = []) ∧ (∃ s : State, s.phase = .running ∧ 0 < s.due.sample ∧ s.weather.ring.length = 64)
      ∧ ∃ s : State, s.phase = .running ∧ 0 < s.due.sample ∧ s.weather.ring = [] :=
  ⟨⟨resetWeather, rfl⟩, ⟨{ bench with weather := { resetWeather with ring := List.replicate 64 100 } }, by decide +kernel⟩,
    bench, by decide +kernel⟩

theorem witness_VaneReads :
    (∃ s : State, s.phase = .running ∧ 0 < s.due.sample ∧ s.weather.disagree = 3)
      ∧ ∃ s : State, s.phase = .running ∧ 0 < s.due.sample ∧ s.weather.disagree = 4 :=
  ⟨⟨{ bench with weather := { resetWeather with disagree := 3 } }, by decide +kernel⟩,
    { bench with weather := { resetWeather with disagree := 4 } }, by decide +kernel⟩

theorem witness_RainSensorMoves : ∃ (s : State) (k : Nat), s.phase = .running ∧ 0 < s.due.sample ∧ k < 4 ∧ (s.weather.input k).state = .wetting :=
  ⟨bench, 0, by decide +kernel⟩

theorem witness_RainConditions : ∃ s : State, s.phase = .running ∧ 0 < s.due.sample ∧ s.site.rainMask = 1 := ⟨bench, by decide +kernel⟩

/-- A lee group, and for each course of calm since a state that takes it: with WIND raised and not, and with a calm
since of its own. -/
theorem witness_WindAndRainSources :
    (∃ (s : State) (g : Nat), s.phase = .running ∧ 0 < s.due.sample ∧ g < 8 ∧ (s.group g).active.bearing = .sector 2
        ∧ (s.threat g).wind = none)
      ∧ (∃ s : State, s.phase = .running ∧ 0 < s.due.sample ∧ (s.threat 1).wind = some 4900 ∧ (s.threat 1).calmSince = none)
      ∧ ∃ s : State, s.phase = .running ∧ 0 < s.due.sample ∧ (s.threat 1).wind = some 4000
        ∧ (s.threat 1).calmSince = some (s.T - s.site.calmHold) :=
  ⟨⟨bench, 1, by decide +kernel⟩,
    ⟨{ bench with threats := bench.threats.setIfInBounds 1 { resetThreat with wind := some 4900 } }, by decide +kernel⟩,
    { bench with threats := bench.threats.setIfInBounds 1 { resetThreat with wind := some 4000, calmSince := some 4400 } },
    by decide +kernel⟩

/-- A hand-off of RAIN for group 0 (members 3 and 4), and the end of an episode with a failed member. -/
theorem witness_ThreatChangesAreHandedOff :
    (∃ (s : State) (g : Nat) (evaluated : Threat), g < 8 ∧ s.noApplyWaits ∧ (s.threat g).rain = none
        ∧ evaluated.rain = some 5000 ∧ s.groupOf 3 = some g ∧ (s.cfg 3).enabled = true ∧ s.isHeld 3 = false
        ∧ (s.live 3).failed = false ∧ s.closed 3 = false)
      ∧ ∃ (s : State) (g : Nat) (evaluated : Threat), g < 8 ∧ s.noApplyWaits ∧ (s.threat g).rain = some 5000
        ∧ evaluated = resetThreat ∧ 3 ∈ (s.group g).active.members ∧ (s.live 3).failed = true :=
  ⟨⟨bench, 0, { resetThreat with rain := some 5000 }, by decide, no_apply_waits _ (by decide +kernel), by decide +kernel⟩,
    { bench with
      threats := bench.threats.setIfInBounds 0 { resetThreat with rain := some 5000 }
      lives := bench.lives.setIfInBounds 3 { seen 600 with failed := true } }, 0, resetThreat, by decide,
    no_apply_waits _ (by decide +kernel), by decide +kernel⟩

/-- The bench with four notices waiting behind the one being sent. -/
def telling : State :=
  { bench with host := { resetHost with
      sending := some (.notice (.started .pin)), notices := List.replicate 4 (.started .pin) } }

/-- The bench with the episode of group 1 about to end and its member failed. -/
def calming : State :=
  { bench with
    threats := bench.threats.setIfInBounds 1 { resetThreat with wind := some 4000, calmSince := some 4400 }
    lives := bench.lives.setIfInBounds 12 { seen 900 with failed := true } }

theorem telling_raises_rain :
    (telling.threat 0).rain = none ∧ ((after (exec (.sampleEvent 5 5 #v[488, 0, 0, 0]) telling)).threat 0).rain = some 5000 := by
  decide +kernel

/-- A sample that raises RAIN in group 0, and one that ends the episode of group 1 with a failed member. -/
theorem witness_ThreatChangesAreHandedOff_sample :
    (∃ (s t : State) (v1 v2 : BitVec 3) (levels : Vector Nat 4), s.phase = .running ∧ 0 < s.due.sample ∧ s.noApplyWaits
        ∧ exec (.sampleEvent v1 v2 levels) s = .next t ∧ (s.threat 0).HandedOff (t.threat 0) ∧ s.groupOf 3 = some 0
        ∧ (s.cfg 3).enabled = true ∧ s.isHeld 3 = false ∧ (s.live 3).failed = false ∧ s.closed 3 = false
        ∧ (t.threat 0).level ≠ (s.threat 0).level ∧ s.host.notices.length + 0 + 2 = 6)
      ∧ ∃ (s t : State) (v1 v2 : BitVec 3) (levels : Vector Nat 4), s.phase = .running ∧ 0 < s.due.sample ∧ s.noApplyWaits
        ∧ exec (.sampleEvent v1 v2 levels) s = .next t ∧ (t.threat 1).NoSource ∧ ¬(s.threat 1).NoSource
        ∧ 12 ∈ (s.group 1).active.members ∧ (s.live 12).failed = true := by
  refine ⟨⟨telling, after (exec (.sampleEvent 5 5 #v[488, 0, 0, 0]) telling), 5, 5, #v[488, 0, 0, 0], rfl, by decide +kernel,
      no_apply_waits _ (by decide +kernel), next_after _ (by decide +kernel), Or.inr (Or.inl ?_), by decide +kernel⟩,
    calming, after (exec (.sampleEvent 5 5 #v[900, 0, 0, 0]) calming), 5, 5, #v[900, 0, 0, 0], rfl, by decide +kernel,
    no_apply_waits _ (by decide +kernel), next_after _ (by decide +kernel), by decide +kernel⟩
  rw [telling_raises_rain.1, telling_raises_rain.2]
  trivial

theorem witness_ForecastSourceAndEpisode :
    ∃ (s : State) (g : Nat), s.phase = .running ∧ 0 < s.due.sample ∧ g < 8 ∧ s.weather.forecasts ≠ [] :=
  ⟨{ bench with weather := { resetWeather with forecasts := [⟨1, 5100, 5600, 0, 0, 5000⟩] } }, 7, by decide +kernel⟩

theorem witness_ForecastsListedAndExpired :
    (∃ s : State, s.takes ∧ s.weather.forecasts.length = 3)
      ∧ (∃ (s : State) (ftag : Nat), s.takes ∧ s.weather.forecasts.length = 4 ∧ ∃ f ∈ s.weather.forecasts, f.ftag = ftag)
      ∧ ∃ (s : State) (f : Forecast), s.phase = .running ∧ 0 < s.due.sample ∧ f ∈ s.weather.forecasts ∧ f.endsAt ≤ s.T :=
  ⟨⟨{ bench with weather := { resetWeather with forecasts := List.replicate 3 ⟨1, 0, 0, 0, 0, 0⟩ } }, ⟨rfl, rfl⟩, rfl⟩,
    ⟨{ bench with weather := { resetWeather with forecasts := List.replicate 4 ⟨1, 0, 0, 0, 0, 0⟩ } }, 1, ⟨rfl, rfl⟩, rfl,
      ⟨1, 0, 0, 0, 0, 0⟩, by decide, rfl⟩,
    { bench with weather := { resetWeather with forecasts := [⟨1, 4900, 5000, 0, 0, 4900⟩] } }, ⟨1, 4900, 5000, 0, 0, 4900⟩, by
      decide +kernel⟩

/-- A forecast that raises the FORECAST source of group 0 while no apply waits. -/
theorem witness_ForecastsListedAndExpired_sources :
    ∃ s t : State, s.takes ∧ s.noApplyWaits ∧ exec (.forecast 9 1 60 600 0 1) s = .next t
      ∧ (s.threat 0).forecast = none ∧ (t.threat 0).forecast = some 5000 ∧ s.groupOf 3 = some 0 ∧ (s.cfg 3).enabled = true
      ∧ s.isHeld 3 = false ∧ (s.live 3).failed = false ∧ s.closed 3 = false :=
  ⟨bench, _, ⟨rfl, rfl⟩, no_apply_waits _ (by decide +kernel), next_after _ (by decide +kernel), by decide +kernel⟩

/-! ## Witnesses: jobs -/

/-- The bench with the rain confirmed for group 0 and no job yet. -/
def threatened : State := { bench with threats := bench.threats.setIfInBounds 0 { resetThreat with rain := some 5000 } }

theorem witness_CoverageCreatesCloseJob :
    ∃ (s : State) (i : Nat), s.job? i = none ∧ s.threatOf i = some (.rain, 5000) ∧ (s.cfg i).enabled = true
      ∧ s.isHeld i = false ∧ (s.live i).failed = false ∧ s.closed i = false :=
  ⟨threatened, 3, by decide +kernel⟩

theorem witness_CoverageEscalates :
    ∃ (s : State) (i : Nat) (j : Job), s.job? i = some j ∧ j.target = 0 ∧ (s.cfg i).enabled = true ∧ s.isHeld i = false
      ∧ (s.live i).failed = false ∧ s.threatOf i = some (.rain, 5000) :=
  ⟨{ threatened with jobs := [job3] }, 3, job3, by decide +kernel⟩

/-- R55: the walk runs after an escalation of a QUEUED job that changes nothing. Opening 21 of chained group 2 waits for
20; with 20 disabled, which no event of R58 reports, a sample whose hand-off leaves 21's job as it is starts it. -/
theorem test_escalation_runs_the_walk :
    (let job21 : Job := { job3 with opening := 21, rank := .wind, deadline := 4000, estimate := 21 }
     let s : State := { bench with
       jobs := [job21]
       cfgs := bench.cfgs.setIfInBounds 20 { sash 20 50 40 15 6 with enabled := false }
       groups := State.reset.groups.setIfInBounds 2 (bench.group 2) }
     let t := after (exec (.sampleEvent 5 5 #v[488, 0, 0, 0]) s)
     (t.threat 2).deadline = some 5000 ∧ t.jobs = [{ job21 with state := .dispatching }]) := by
  decide +kernel

/-- A close job in QUEUED whose rank and deadline the threat leaves as they are. -/
theorem witness_CoverageEscalates_unchanged :
    ∃ (s : State) (i : Nat) (j : Job), s.job? i = some j ∧ j.target = 0 ∧ (s.cfg i).enabled = true ∧ s.isHeld i = false
      ∧ (s.live i).failed = false ∧ s.threatOf i = some (j.rank, j.deadline) ∧ j.state = .queued :=
  ⟨{ threatened with jobs := [{ job3 with rank := .rain, deadline := 5000 }] }, 3,
    { job3 with rank := .rain, deadline := 5000 }, by decide +kernel⟩

theorem witness_CoverageConverts :
    ∃ (s : State) (i : Nat) (j : Job), QueueBounded s ∧ s.job? i = some j ∧ 0 < j.target ∧ (s.cfg i).enabled = true
      ∧ s.isHeld i = false ∧ (s.live i).failed = false ∧ s.threatOf i = some (.rain, 5000) ∧ j.state = .running :=
  ⟨{ threatened with jobs := [{ job3 with target := 1, state := .running }] }, 3,
    { job3 with target := 1, state := .running }, ⟨by decide, by decide, by decide, by decide⟩, by decide +kernel⟩

theorem witness_JobQueueStaysOrdered : ∃ s t : State, JobsOrdered s.jobs ∧ step s = .next t ∧ t.jobs.length = 5 :=
  ⟨sampling, rainFront, by unfold JobsOrdered; decide +kernel, sampling_steps, by decide +kernel⟩

theorem witness_WalkMovesOnlyQueuedJobs :
    ∃ s : State, JobsOrdered s.jobs ∧ s.walkDue = true ∧ s.phase = .running ∧ s.jobs ≠ [] :=
  ⟨{ withJob job3 with walkDue := true }, by unfold JobsOrdered; decide +kernel, rfl, rfl, by decide⟩

/-- A walk that meets one QUEUED job and starts it: with its warning, with its DRIVE, and with its conversion. The
reservation sum with its inrush current is Beff (130 + 30). -/
theorem witness_WalkMovesOnlyQueuedJobs_starts :
    ∀ reachable : Bool, ∀ threat : Threat, ∃ (s : State) (j : Job), JobsOrdered s.jobs
      ∧ (State.reportRoom [] s.arbitrate).walkDue = true ∧ s.supply.cutoff = false ∧ s.jobs = [j] ∧ j.state = .queued
      ∧ (s.node j.opening).presence = .present ∧ s.chainReady j.opening = true ∧ s.line.handover = .line
      ∧ s.reservation? j.opening = none ∧ (s.cfg j.opening).reachable = reachable ∧ s.threat 0 = threat
      ∧ s.groupOf j.opening = some 0 ∧ s.moreOpen j.opening j.target = true ∧ s.beff = reservedSum s.reserv + 30
      ∧ (s.cfg j.opening).inrush = 30 := by
  intro reachable threat
  exact ⟨{ withJob { job3 with target := 4000 } with
      walkDue := true, reserv := [⟨20, 130, .run, false⟩]
      cfgs := bench.cfgs.setIfInBounds 3 { sash 3 40 30 12 8 with reachable := reachable, zone := some 1 }
      threats := bench.threats.setIfInBounds 0 threat }, { job3 with target := 4000 }, List.pairwise_singleton _ _, rfl,
    rfl, rfl, rfl, by show (bench.node 3).presence = .present; decide +kernel,
    by show ({ bench with cfgs := bench.cfgs.setIfInBounds 3 { sash 3 40 30 12 8 with reachable := reachable, zone := some 1 } } : State).chainReady 3 = true
       cases reachable <;> decide +kernel,
    rfl, rfl, rfl, rfl, by show bench.groupOf 3 = some 0; decide +kernel,
    by show bench.moreOpen 3 4000 = true; decide +kernel, by show bench.beff = 160; decide +kernel, rfl⟩

/-- A walk that stops at its first job: at eight starts under way, one budget unit short, and at a full queue. -/
theorem witness_WalkMovesOnlyQueuedJobs_stops :
    (∃ s : State, JobsOrdered s.jobs ∧ s.walkDue = true ∧ s.supply.cutoff = false ∧ s.startsUnderWay = 8
        ∧ s.queuedOpenings = [3] ∧ s.passesOver 3 = false)
      ∧ (∃ s : State, JobsOrdered s.jobs ∧ s.walkDue = true ∧ s.supply.cutoff = false ∧ s.queuedOpenings = [3]
        ∧ s.passesOver 3 = false ∧ s.beff + 1 = reservedSum s.reserv + (s.cfg 3).inrush)
      ∧ ∃ s : State, JobsOrdered s.jobs ∧ s.walkDue = true ∧ s.supply.cutoff = false ∧ s.queuedOpenings = [3]
        ∧ s.passesOver 3 = false ∧ s.needsWarning job3 = false
        ∧ (State.reportRoom s.line.queue s.arbitrate).line.queue.length = 16 :=
  ⟨⟨{ bench with
      walkDue := true
      jobs := (List.range 8).map (fun k => { job3 with opening := k + 30, deadline := 5000, state := .announcing }) ++ [job3] },
      by unfold JobsOrdered; decide +kernel, by decide +kernel⟩,
    ⟨{ withJob job3 with walkDue := true, reserv := [⟨20, 131, .run, false⟩] }, by unfold JobsOrdered; decide +kernel,
      by decide +kernel⟩,
    { withJob job3 with
      walkDue := true
      line := { resetLine with
        flight := some ⟨.poll 4 3, 37, 1, 0, .window, false⟩, queue := (List.range 16).map fun k => .halt (k + 20) (k + 19) } },
    by unfold JobsOrdered; decide +kernel, by decide +kernel⟩

theorem witness_StartsStayCapped : ∃ s t : State, JobsOrdered s.jobs ∧ StartsCapped s ∧ step s = .next t :=
  ⟨sampling, rainFront, by unfold JobsOrdered; decide +kernel, by unfold StartsCapped; decide +kernel, sampling_steps⟩

theorem witness_WaitsAndHoldsEnd_wait :
    ∃ (s : State) (j : Job) (at' : Nat), (s.phase = .running ∧ 0 < s.due.supervision ∧ s.job? j.opening = some j ∧ j.state = .retryWait at'
      ∧ at' ≤ s.T ∧ s.reservation? j.opening = none) ∧ s.noApplyWaits :=
  ⟨withJob { job3 with state := .retryWait 5000 }, { job3 with state := .retryWait 5000 }, 5000, by decide +kernel,
    no_apply_waits _ (by decide +kernel)⟩

theorem witness_WaitsAndHoldsEnd_hold :
    ∃ (s : State) (i at' : Nat), s.phase = .running ∧ 0 < s.due.supervision ∧ s.heldUntil i = some at' ∧ at' ≤ s.T :=
  ⟨{ bench with held := [⟨3, 5000⟩] }, 3, 5000, by decide +kernel⟩

theorem witness_JobsAreStopped_timeout :
    ∃ (s : State) (j : Job) (start : Nat), QueueBounded s ∧ s.phase = .running ∧ 0 < s.due.supervision
      ∧ s.job? j.opening = some j ∧ j.state = .running ∧ j.startedAt = some start ∧ 2 * j.estimate + 10 < s.T - start :=
  ⟨withJob { job3 with state := .running, startedAt := some 4957 }, { job3 with state := .running, startedAt := some 4957 }, 4957,
    ⟨by decide, by decide, by decide, by decide⟩, by decide +kernel⟩

theorem witness_JobsAreStopped_deadline :
    ∃ (s : State) (j : Job), s.phase = .running ∧ 0 < s.due.supervision ∧ s.job? j.opening = some j ∧ j.missed = false
      ∧ j.deadline < s.T :=
  ⟨withJob { job3 with deadline := 4999 }, { job3 with deadline := 4999 }, by decide +kernel⟩

theorem witness_SupervisionLeavesNothingDue :
    ∃ s : State, s.phase = .running ∧ JobsOrdered s.jobs ∧ 0 < s.due.supervision ∧ (s.held.map (·.opening)).Nodup
      ∧ s.jobs ≠ [] ∧ s.held ≠ [] :=
  ⟨{ withJob { job3 with state := .retryWait 5000 } with held := [⟨4, 5000⟩] }, rfl, by unfold JobsOrdered; decide +kernel,
    by decide +kernel⟩

/-! ## Witnesses: the outcomes of jobs -/

theorem witness_JobsFollowTheirReplies :
    ∀ state : JobState, ∃ (s : State) (i : Nat) (j : Job), s.job? i = some j ∧ i < 48 ∧ s.noApplyWaits ∧ j.state = state
      ∧ (s.node i).presence = .present := by
  intro state
  exact ⟨withJob { job3 with state := state }, 3, { job3 with state := state }, rfl, by decide,
    no_apply_waits bench (by decide +kernel), rfl, by show (bench.node 3).presence = .present; decide +kernel⟩

theorem witness_JobsFollowTheirReplies_none :
    (∃ (s : State) (i : Nat), s.job? i = none)
      ∧ ∃ (s : State) (i : Nat) (j : Job), s.job? i = some j ∧ i < 48 ∧ s.noApplyWaits ∧ j.state = .stopping .halted
        ∧ (s.node i).presence ≠ .present :=
  ⟨⟨bench, 3, rfl⟩, { withJob { job3 with state := .stopping .halted } with nodes := State.reset.nodes }, 3,
    { job3 with state := .stopping .halted }, rfl, by decide, no_apply_waits _ (by decide +kernel), rfl, by decide +kernel⟩

/-- The bench with opening 3 stopped at a position and its job RUNNING to 600: 608 is within the tolerance of 8, 609 not. -/
def arriving (position retries : Nat) : State :=
  { withJob { job3 with target := 600, state := .running, retries := retries } with
    lives := bench.lives.setIfInBounds 3 (seen position) }

theorem witness_JobsFollowTheirReplies_report :
    ∀ position retries : Nat, ∃ (s : State) (i p : Nat) (j : Job), s.job? i = some j ∧ j.state = .running ∧ s.noApplyWaits ∧ i < 48
      ∧ (s.live i).position = some p ∧ p = position ∧ j.retries = retries ∧ (s.live i).motion = .stopped := by
  intro position retries
  exact ⟨arriving position retries, 3, position, _, rfl, rfl, no_apply_waits bench (by decide +kernel), by decide, rfl, rfl, rfl, rfl⟩

theorem witness_JobsFollowTheirReplies_bounds :
    withinTolerance 608 600 (bench.cfg 3).tolerance = true ∧ withinTolerance 609 600 (bench.cfg 3).tolerance = false
      ∧ bench.site.retryLimit = 2 := by decide +kernel

/-! ## Witnesses: warnings and the desk panel -/

theorem witness_WarningEnds :
    ∃ (s : State) (j : Job) (w : WarnEntry), (s.phase = .running ∧ 0 < s.due.warnings ∧ s.job? j.opening = some j ∧ j.state = .announcing
        ∧ w ∈ s.warnings ∧ w.opening = j.opening ∧ w.endsAt ≤ s.tenths ∧ s.line.queue.length < 16) ∧ s.noApplyWaits
      ∧ JobsOrdered s.jobs ∧ (j.opening < 48 ∧ j.opening ∉ s.line.pendingHalts ∧ j.opening ∉ s.line.newHalts
        ∧ (s.threatOf j.opening = none ∨ s.moreOpen j.opening j.target = false)
        ∧ (s.node j.opening).presence = .present) :=
  ⟨{ withJob { job3 with state := .announcing } with warnings := [⟨3, 1, 50000⟩] }, { job3 with state := .announcing },
    ⟨3, 1, 50000⟩, by decide +kernel, no_apply_waits _ (by decide +kernel), by unfold JobsOrdered; decide +kernel,
    by decide +kernel⟩

/-- The line request queue full, with room below Beff and without, and a conversion at the dispatch. -/
theorem witness_WarningEnds_queue :
    (∃ (s : State) (j : Job) (w : WarnEntry), (s.phase = .running ∧ 0 < s.due.warnings ∧ s.job? j.opening = some j
        ∧ j.state = .announcing ∧ w ∈ s.warnings ∧ w.opening = j.opening ∧ w.endsAt = s.tenths) ∧ s.noApplyWaits
      ∧ JobsOrdered s.jobs ∧ (j.opening < 48 ∧ j.opening ∉ s.line.pendingHalts ∧ j.opening ∉ s.line.newHalts
        ∧ (s.node j.opening).presence = .present ∧ s.line.queue.length = 16 ∧ s.beff + 1 = (s.cfg j.opening).inrush))
      ∧ ∃ (s : State) (j : Job) (w : WarnEntry), (s.phase = .running ∧ 0 < s.due.warnings ∧ s.job? j.opening = some j
        ∧ j.state = .announcing ∧ w ∈ s.warnings ∧ w.opening = j.opening ∧ w.endsAt = s.tenths) ∧ s.noApplyWaits
      ∧ JobsOrdered s.jobs ∧ (j.opening < 48 ∧ j.opening ∉ s.line.pendingHalts ∧ j.opening ∉ s.line.newHalts
        ∧ (s.node j.opening).presence = .present ∧ s.line.queue.length = 15 ∧ s.threatOf j.opening = some (.rain, 5000)
        ∧ s.moreOpen j.opening j.target = true) :=
  ⟨⟨{ withJob { job3 with state := .announcing } with
      warnings := [⟨3, 1, 50000⟩], supply := ⟨[195], false, 0⟩, site := { bench.site with budget := 174 }
      line := { resetLine with queue := (List.range 16).map fun k => .halt (k + 20) (k + 19) } },
      { job3 with state := .announcing }, ⟨3, 1, 50000⟩, by decide +kernel, no_apply_waits _ (by decide +kernel),
      by unfold JobsOrdered; decide +kernel, by decide +kernel⟩,
    { threatened with
      jobs := [{ job3 with state := .announcing, target := 601 }], warnings := [⟨3, 1, 50000⟩]
      line := { resetLine with queue := (List.range 15).map fun k => .halt (k + 20) (k + 19) } },
    { job3 with state := .announcing, target := 601 }, ⟨3, 1, 50000⟩, by decide +kernel, no_apply_waits _ (by decide +kernel),
    by unfold JobsOrdered; decide +kernel, by decide +kernel⟩

theorem witness_CadenceBeats :
    ∃ (s : State) (z : Nat), s.phase = .running ∧ 0 < s.due.warnings ∧ z < 4 ∧ s.walkDue = false ∧ s.line.queue.length < 16
      ∧ (∀ w ∈ s.warnings, s.tenths < w.endsAt) ∧ (s.zone z).count = 4 ∧ (s.zone z).sounding = true ∧ z ∉ s.due.turned :=
  ⟨{ bench with zones := bench.zones.setIfInBounds 3 ⟨true, true, 4, .hz2048⟩ }, 3, by decide +kernel⟩

/-- The beat before the turnover, and a step that ends the one warning of zone 1. -/
theorem witness_CadenceBeats_zones :
    (∃ (s : State) (z : Nat), s.phase = .running ∧ 0 < s.due.warnings ∧ z < 4 ∧ (s.zone z).count = 3)
      ∧ ∃ s t : State, JobsOrdered s.jobs ∧ ZonesFollowHolders s ∧ step s = .next t ∧ (s.zone 1).sounding = true
        ∧ (t.zone 1).sounding = false :=
  ⟨⟨{ bench with zones := bench.zones.setIfInBounds 3 ⟨true, true, 3, .hz2048⟩ }, 3, by decide +kernel⟩,
    { withJob { job3 with state := .announcing } with
      warnings := [⟨3, 1, 50000⟩], zones := bench.zones.setIfInBounds 1 ⟨true, true, 4, .hz2048⟩
      pending := [.warningEnd 3] }, _, by unfold JobsOrdered; decide +kernel,
    ⟨by decide +kernel, by decide +kernel, by decide +kernel⟩, next_after _ (by decide +kernel), by decide +kernel⟩

theorem witness_PanelFrameShowsTheHighest : ∃ s : State, s.phase = .running := ⟨bench, rfl⟩

/-! ## Witnesses: nodes and the actuator line -/

/-- A node that is due alone, and one of two that are due with room for one: node 21 comes before it (R139). -/
theorem witness_NodesAreServedAndLost_due :
    (∃ (s : State) (i : Nat), s.phase = .running ∧ 0 < s.due.nodes ∧ i < 48 ∧ (s.cfg i).enabled = true
        ∧ (s.node i).dueAt ≤ s.tenths ∧ searchCount s.line.queue + 5 ≤ 5 ∧ s.line.queue.length + 5 ≤ 16)
      ∧ ∃ (s : State) (i : Nat), s.phase = .running ∧ 0 < s.due.nodes ∧ i = 3 ∧ (s.cfg i).enabled = true
        ∧ (s.node i).dueAt ≤ s.tenths ∧ searchCount s.line.queue = 3
        ∧ ∀ k ∈ (List.range 48).filter (fun k => (s.cfg k).enabled && ((s.node k).owed || decide ((s.node k).dueAt ≤ s.tenths))),
            k ≠ i → s.dueBefore i k = true :=
  ⟨⟨{ bench with tenths := 60000 }, 21, by decide +kernel⟩,
    { bench with tenths := 60000, line := { resetLine with queue := [.poll 30 29, .poll 31 30, .poll 32 31] } }, 3, by
      decide +kernel⟩

/-- REPLY_TIMEOUT of a POLL in each presence state, at the last failure that keeps the node and at the one that loses it. -/
theorem witness_NodesAreServedAndLost_failure :
    ∀ (presence : Presence) (failure : Nat) (paused : Bool), ∃ (s : State) (f : Flight) (i : Nat), s.phase = .running
      ∧ s.line.flight = some f ∧ f.request = .poll (s.cfg i).address i ∧ f.stage = .window ∧ f.detached = false
      ∧ s.line.replyTimer.isSome = true ∧ i < 48 ∧ (s.node i).presence = presence ∧ (s.node i).failure = failure
      ∧ s.countingPaused = paused := by
  intro presence failure paused
  exact ⟨{ polling with
      line := { polling.line with replyTimer := some 41 }
      nodes := bench.nodes.setIfInBounds 3 { here with presence := presence, failure := failure }
      countingPaused := paused }, ⟨.poll 4 3, 37, 1, 0, .window, false⟩, 3, rfl, rfl,
    by show LineRequest.poll 4 3 = .poll (bench.cfg 3).address 3; decide +kernel, rfl, rfl, rfl, by decide, rfl, rfl, rfl⟩

/-- On the bench no node is due or owed (R123). -/
theorem witness_NodesAreServedAndLost_none :
    ∃ s : State, s.phase = .running ∧ 0 < s.due.nodes
      ∧ ∀ k, k < 48 → (s.cfg k).enabled = true → (s.node k).owed = false ∧ s.tenths < (s.node k).dueAt :=
  ⟨bench, by decide +kernel⟩

/-- The third failure of node 3, with its job in every state and its entry unmarked and marked. -/
theorem witness_NodesAreServedAndLost_third :
    ∀ (state : JobState) (marked : Bool), ∃ (s : State) (f : Flight) (i : Nat) (j : Job) (r : Reservation),
      s.phase = .running ∧ s.line.flight = some f ∧ f.request = .poll (s.cfg i).address i ∧ f.stage = .window
      ∧ f.detached = false ∧ s.line.replyTimer.isSome = true ∧ i < 48 ∧ s.countingPaused = false
      ∧ (s.node i).presence = .present ∧ (s.node i).failure = 2 ∧ s.noApplyWaits ∧ JobsOrdered s.jobs
      ∧ s.job? i = some j ∧ j.state = state ∧ s.reservation? i = some r ∧ r.marked = marked := by
  intro state marked
  exact ⟨{ polling with
      line := { polling.line with replyTimer := some 41 }
      nodes := bench.nodes.setIfInBounds 3 { here with failure := 2 }
      jobs := [{ job3 with state := state }]
      reserv := [⟨3, 30, .run, marked⟩] }, ⟨.poll 4 3, 37, 1, 0, .window, false⟩, 3, { job3 with state := state },
    ⟨3, 30, .run, marked⟩, rfl, rfl,
    by show LineRequest.poll 4 3 = .poll (bench.cfg 3).address 3; decide +kernel, rfl, rfl, rfl, by decide, rfl, rfl, rfl,
    no_apply_waits bench (by decide +kernel), List.pairwise_singleton _ _, rfl, rfl, rfl, rfl⟩

theorem witness_NodesAreServedAndLost_loss :
    ∀ state : JobState, ∃ (s : State) (i : Nat) (j : Job), i < 48 ∧ s.noApplyWaits ∧ s.job? i = some j ∧ j.state = state := by
  intro state
  exact ⟨withJob { job3 with state := state }, 3, { job3 with state := state }, by decide,
    no_apply_waits bench (by decide +kernel), rfl, rfl⟩

theorem witness_LineQueueStaysBounded : ∃ s t : State, QueueBounded s ∧ step s = .next t ∧ t.line.queue ≠ [] :=
  ⟨sampling, rainFront, ⟨by decide, by decide, by decide, by decide⟩, sampling_steps, by decide +kernel⟩

/-- The sample starts three jobs, whose DRIVEs begin to wait and to be sent. -/
theorem witness_MotionRequestsStayWithTheirJobs :
    ∃ s t : State, MotionRequestsFollowJobs s ∧ step s = .next t ∧ (t.line.queue.filter (·.isDrive)).length = 3 :=
  ⟨sampling, rainFront,
    { ordered := by unfold JobsOrdered; decide +kernel
      capped := by unfold StartsCapped; decide +kernel
      settled := ⟨rfl, rfl⟩
      once := by decide +kernel
      drives := nofun
      halts := nofun
      pending := nofun
      flight := nofun
      entries := by decide +kernel
      moving := nofun },
    sampling_steps, by decide +kernel⟩

theorem witness_ArbiterStartsHighestClass :
    ∃ (s : State) (r : LineRequest), s.phase = .running ∧ s.line.flight = none ∧ s.line.quiet = false
      ∧ (s.line.handover = .line ∨ s.line.handover = .deferred)
      ∧ (match s.line.queue.filter (fun x => x.isHalt || x == .haltAll) with
        | h :: _ => some h
        | [] => match s.line.queue.filter (·.isDrive) with
          | d :: _ => some d
          | [] => s.line.queue.head?) = some r :=
  ⟨{ bench with line := { resetLine with queue := [.poll 4 3, .drive 5 4 0, .halt 21 20] } }, .halt 21 20, by decide +kernel⟩

theorem witness_GrantedLineStaysFree :
    ∃ s t : State, GrantedLineFree s ∧ s.line.handover = .granted ∧ step s = .next t :=
  ⟨{ bench with line := { resetLine with handover := .granted }, pending := [.svcreqReleased] },
    after (exec .svcreqReleased { bench with line := { resetLine with handover := .granted } }), fun _ => rfl, rfl,
    next_after _ (by decide +kernel)⟩

theorem witness_TransactionMovesOn :
    (∃ (s : State) (f : Flight), s.phase = .running ∧ s.line.flight = some f ∧ f.stage = .sending ∧ f.request ≠ .haltAll)
      ∧ (∃ (s : State) (f : Flight), s.phase = .running ∧ s.line.flight = some f ∧ f.stage = .resendDelay)
      ∧ ∃ (s : State) (f : Flight), s.phase = .running ∧ s.line.flight = some f ∧ f.stage = .nextAttempt ∧ s.line.quiet = true :=
  ⟨⟨flying (.poll 4 3) .sending, ⟨.poll 4 3, 37, 1, 0, .sending, false⟩, by decide +kernel⟩,
    ⟨flying (.poll 4 3) .resendDelay, ⟨.poll 4 3, 37, 1, 0, .resendDelay, false⟩, by decide +kernel⟩,
    { bench with line := { resetLine with quiet := true, flight := some ⟨.poll 4 3, 37, 1, 0, .nextAttempt, false⟩ } },
    ⟨.poll 4 3, 37, 1, 0, .nextAttempt, false⟩, by decide +kernel⟩

theorem witness_TransactionMovesOn_free :
    (∃ (s : State) (r : LineRequest), s.phase = .running ∧ s.line.flight = none ∧ s.line.quiet = true
        ∧ s.line.handover = .deferred ∧ s.line.queue = [r])
      ∧ ∃ s : State, s.phase = .running ∧ s.line.flight = none ∧ s.line.quiet = true ∧ s.line.handover = .granted :=
  ⟨⟨{ bench with line := { resetLine with quiet := true, handover := .deferred, queue := [.poll 4 3] } }, .poll 4 3, by
      decide +kernel⟩,
    { bench with line := { resetLine with quiet := true, handover := .granted } }, by decide +kernel⟩

theorem witness_TransactionMovesOn_character :
    ∃ (s : State) (f : Flight) (c : LineChar), s.phase = .running ∧ s.line.flight = some f ∧ f.stage = .window
      ∧ parityFault c = false ∧ c.stop = true ∧ c.mark = decide (s.line.replyBuf = []) ∧ s.line.replyBuf.length < 12
      ∧ replyIsComplete (s.line.replyBuf ++ [(c.mark, c.value)]) = false :=
  ⟨polling, ⟨.poll 4 3, 37, 1, 0, .window, false⟩, soundChar true 132#8, by decide +kernel⟩

theorem witness_RepliesAreTakenAndHaltAllEnds_haltAll :
    ∃ (s : State) (f : Flight), s.phase = .running ∧ s.line.flight = some f ∧ f.request = .haltAll ∧ f.stage = .sending
      ∧ (f.seq + 1) % 256 = s.line.seq :=
  ⟨flying .haltAll .sending, ⟨.haltAll, 37, 1, 0, .sending, false⟩, by decide +kernel⟩

theorem witness_AttemptFails :
    (∃ (s : State) (f : Flight) (c : LineChar), s.phase = .running ∧ s.line.flight = some f ∧ f.stage = .window
        ∧ f.request.address < 63 ∧ s.line.replyTimer = none ∧ parityFault c = true)
      ∧ ∃ (s : State) (f : Flight) (c : LineChar), s.phase = .running ∧ s.line.flight = some f ∧ f.stage = .window
        ∧ f.request.address < 63 ∧ s.line.replyTimer.isSome = true ∧ parityFault c = false ∧ c.stop = false :=
  ⟨⟨polling, ⟨.poll 4 3, 37, 1, 0, .window, false⟩, ⟨1#8, false, false, true⟩, by decide +kernel⟩,
    { polling with line := { polling.line with replyTimer := some 40 } }, ⟨.poll 4 3, 37, 1, 0, .window, false⟩,
    ⟨1#8, false, true, false⟩, by decide +kernel⟩

/-- A mark out of place at the second character, and a 13th character that shows nothing else. -/
theorem witness_AttemptFails_character :
    (∃ (s : State) (f : Flight) (c : LineChar), s.phase = .running ∧ s.line.flight = some f ∧ f.stage = .window
        ∧ f.request.address = 62 ∧ parityFault c = false ∧ c.stop = true ∧ s.line.replyBuf.length = 1 ∧ c.mark = true)
      ∧ ∃ (s : State) (f : Flight) (c : LineChar), s.phase = .running ∧ s.line.flight = some f ∧ f.stage = .window
        ∧ f.request.address = 62 ∧ parityFault c = false ∧ c.stop = true ∧ c.mark = false ∧ s.line.replyBuf.length = 12 :=
  ⟨⟨{ bench with line := { resetLine with
        flight := some ⟨.poll 62 3, 37, 1, 0, .window, false⟩, replyBuf := [(true, 190#8)] } },
      ⟨.poll 62 3, 37, 1, 0, .window, false⟩, soundChar true 1#8, by decide +kernel⟩,
    { bench with line := { resetLine with
        flight := some ⟨.poll 62 3, 37, 1, 0, .window, false⟩, replyBuf := List.replicate 12 (false, 1#8) } },
    ⟨.poll 62 3, 37, 1, 0, .window, false⟩, soundChar false 1#8, by decide +kernel⟩

/-- Whole replies: an IDENT whose check differs by one bit, a STATUS to an IDENT request, an IDENT with a travel of 15 and
a STATUS with motion 3. -/
theorem witness_AttemptFails_reply :
    (∃ check : Byte, check ≠ crc8 [195#8, 37#8, 0#8, 16#8] ∧ check ^^^ 1#8 = crc8 [195#8, 37#8, 0#8, 16#8])
      ∧ (∃ (s : State) (f : Flight) (header kind seq : Byte) (data : List Byte), s.phase = .running ∧ s.line.flight = some f
        ∧ f.stage = .window ∧ f.request = .ident 4 3 ∧ s.line.replyBuf = [] ∧ kind = 144#8 ∧ data.length = 5
        ∧ header.toNat = 128 + f.request.address ∧ seq.toNat = f.seq)
      ∧ (∃ (s : State) (f : Flight) (header kind seq : Byte) (data : List Byte), s.phase = .running ∧ s.line.flight = some f
        ∧ f.stage = .window ∧ f.request = .ident 4 3 ∧ s.line.replyBuf = [] ∧ kind = 195#8 ∧ data = [0#8, 15#8]
        ∧ header.toNat = 128 + f.request.address ∧ seq.toNat = f.seq)
      ∧ ∃ (s : State) (f : Flight) (header kind seq : Byte) (data : List Byte), s.phase = .running ∧ s.line.flight = some f
        ∧ f.stage = .window ∧ f.request = .poll 4 3 ∧ s.line.replyBuf = [] ∧ kind = 144#8 ∧ data = [0#8, 0#8, 3#8, 0#8, 0#8]
        ∧ header.toNat = 128 + f.request.address ∧ seq.toNat = f.seq :=
  ⟨⟨crc8 [195#8, 37#8, 0#8, 16#8] ^^^ 1#8, by decide +kernel⟩,
    ⟨flying (.ident 4 3) .window, ⟨.ident 4 3, 37, 1, 0, .window, false⟩, 132#8, 144#8, 37#8, [0#8, 0#8, 0#8, 0#8, 0#8], by
      decide +kernel⟩,
    ⟨flying (.ident 4 3) .window, ⟨.ident 4 3, 37, 1, 0, .window, false⟩, 132#8, 195#8, 37#8, [0#8, 15#8], by decide +kernel⟩,
    polling, ⟨.poll 4 3, 37, 1, 0, .window, false⟩, 132#8, 144#8, 37#8, [0#8, 0#8, 3#8, 0#8, 0#8], by decide +kernel⟩

/-- The three requests a STATUS answers, with the data at the ends of their ranges and the node in each presence state. -/
theorem witness_RepliesAreTakenAndHaltAllEnds_status :
    ∀ presence : Presence, ∀ r ∈ [LineRequest.poll 4 3, .drive 4 3 600, .halt 4 3],
      ∃ (s : State) (f : Flight) (i position motion faults current : Nat), s.phase = .running ∧ s.line.flight = some f
        ∧ f.request = r ∧ (s.cfg i).address = 4 ∧ i = 3 ∧ f.stage = .window ∧ f.detached = false ∧ f.seq < 256
        ∧ (f.seq + 1) % 256 = s.line.seq ∧ s.line.replyBuf = [] ∧ position = 4095 ∧ motion = 2 ∧ faults = 15
        ∧ current = 255 ∧ (s.node i).presence = presence := by
  intro presence r _
  exact ⟨{ flying r .window with nodes := bench.nodes.setIfInBounds 3 { here with presence := presence } },
    ⟨r, 37, 1, 0, .window, false⟩, 3, 4095, 2, 15, 255, rfl, rfl, rfl,
    by show (bench.cfg 3).address = 4; decide +kernel, rfl, rfl, rfl, by show 37 < 256; decide, rfl, rfl, rfl, rfl, rfl, rfl, rfl⟩

theorem witness_RepliesAreTakenAndHaltAllEnds_ident :
    (∃ (s : State) (f : Flight) (i travel : Nat), s.phase = .running ∧ s.line.flight = some f
        ∧ f.request = .ident (s.cfg i).address i ∧ f.stage = .window ∧ f.detached = false ∧ f.seq < 256
        ∧ (f.seq + 1) % 256 = s.line.seq ∧ s.line.replyBuf = [] ∧ i < 48 ∧ (s.cfg i).address < 63 ∧ travel = 16
        ∧ (s.cfg i).travel ≠ travel)
      ∧ ∃ (s : State) (f : Flight) (i travel : Nat), s.phase = .running ∧ s.line.flight = some f
        ∧ f.request = .ident (s.cfg i).address i ∧ f.stage = .window ∧ f.detached = false ∧ f.seq < 256
        ∧ (f.seq + 1) % 256 = s.line.seq ∧ s.line.replyBuf = [] ∧ i < 48 ∧ (s.cfg i).address < 63 ∧ travel = 4000
        ∧ (s.cfg i).travel = travel :=
  ⟨⟨flying (.ident 4 3) .window, ⟨.ident 4 3, 37, 1, 0, .window, false⟩, 3, 16, by decide +kernel⟩,
    flying (.ident 4 3) .window, ⟨.ident 4 3, 37, 1, 0, .window, false⟩, 3, 4000, by decide +kernel⟩

theorem witness_RepliesAreTakenAndHaltAllEnds_wait :
    (∃ (s : State) (f : Flight), s.phase = .running ∧ s.line.flight = some f ∧ f.request ≠ .haltAll ∧ f.stage = .window
        ∧ f.seq < 256 ∧ s.line.replyBuf = [] ∧ f.request.address < 63 ∧ f.resends = 2)
      ∧ ∃ (s : State) (f : Flight), s.phase = .running ∧ s.line.flight = some f ∧ f.request ≠ .haltAll ∧ f.stage = .window
        ∧ f.seq < 256 ∧ s.line.replyBuf = [] ∧ f.request.address < 63 ∧ f.resends = 3 :=
  ⟨⟨{ bench with line := { resetLine with flight := some ⟨.poll 4 3, 37, 1, 2, .window, false⟩ } },
      ⟨.poll 4 3, 37, 1, 2, .window, false⟩, by decide +kernel⟩,
    { bench with line := { resetLine with flight := some ⟨.poll 4 3, 37, 1, 3, .window, false⟩ } },
    ⟨.poll 4 3, 37, 1, 3, .window, false⟩, by decide +kernel⟩

/-- A STATUS to each of the three requests with the job in every state; 608 lies within the tolerance of 600, 609 not. -/
theorem witness_RepliesAreTakenAndHaltAllEnds_job :
    ∀ r ∈ [LineRequest.poll 4 3, .drive 4 3 600, .halt 4 3], ∀ (state : JobState) (target retries position : Nat),
      position < 4096 →
      ∃ (s : State) (f : Flight) (i motion faults current : Nat) (j : Job), s.phase = .running ∧ s.line.flight = some f
        ∧ f.request = r ∧ f.stage = .window ∧ f.detached = false ∧ f.seq < 256 ∧ (f.seq + 1) % 256 = s.line.seq
        ∧ s.line.replyBuf = [] ∧ i < 48 ∧ (s.cfg i).address = 4 ∧ motion = 0 ∧ faults = 15 ∧ current = 255
        ∧ s.job? i = some j ∧ s.noApplyWaits ∧ (s.node i).coverageOwed = false ∧ JobsOrdered s.jobs ∧ j.state = state
        ∧ j.target = target ∧ j.retries = retries ∧ s.reservation? i = some ⟨3, 30, .inrushWait, false⟩ := by
  intro r _ state target retries position _
  exact ⟨{ flying r .window with
      jobs := [{ job3 with state := state, target := target, retries := retries }], reserv := [⟨3, 30, .inrushWait, false⟩] },
    ⟨r, 37, 1, 0, .window, false⟩, 3, 0, 15, 255, _, rfl, rfl, rfl, rfl, rfl, by show 37 < 256; decide, rfl, rfl, by decide,
    by show (bench.cfg 3).address = 4; decide +kernel, rfl, rfl, rfl, rfl, no_apply_waits bench (by decide +kernel),
    by show (bench.node 3).coverageOwed = false; decide +kernel, List.pairwise_singleton _ _, rfl, rfl, rfl, rfl⟩

/-- REPLY_TIMEOUT of a DRIVE and a HALT at the second attempt and at the third, the node PRESENT at its last failure. -/
theorem witness_RepliesAreTakenAndHaltAllEnds_failure :
    ∀ r ∈ [LineRequest.drive 4 3 600, .halt 4 3], ∀ attempt ∈ [2, 3], ∀ state : JobState,
      ∃ (s : State) (f : Flight) (i : Nat) (j : Job), s.phase = .running ∧ s.line.flight = some f ∧ f.stage = .window
        ∧ f.detached = false ∧ s.line.replyTimer.isSome = true ∧ i = 3 ∧ s.job? i = some j ∧ s.noApplyWaits
        ∧ JobsOrdered s.jobs ∧ f.request = r ∧ (s.cfg i).address = 4 ∧ f.attempt = attempt ∧ j.state = state
        ∧ (s.node i).presence = .present ∧ (s.node i).failure = 1 ∧ s.beff < (s.cfg i).inrush := by
  intro r _ attempt _ state
  exact ⟨{ withJob { job3 with state := state } with
      supply := ⟨[190], false, 0⟩, nodes := bench.nodes.setIfInBounds 3 { here with failure := 1 }
      line := { resetLine with flight := some ⟨r, 37, attempt, 0, .window, false⟩, seq := 38, replyTimer := some 40 } },
    ⟨r, 37, attempt, 0, .window, false⟩, 3, { job3 with state := state }, rfl, rfl, rfl, rfl, rfl, rfl, rfl,
    no_apply_waits bench (by decide +kernel), List.pairwise_singleton _ _, rfl,
    by show (bench.cfg 3).address = 4; decide +kernel, rfl, rfl, rfl, rfl,
    by show ({ bench with supply := ⟨[190], false, 0⟩ } : State).beff < (bench.cfg 3).inrush; decide +kernel⟩

/-- The bench with the line in a handover state. -/
def handed (h : Handover) : State := { bench with line := { resetLine with handover := h } }

/-- The bench with a deferred handover and the last WIND about to end, a request in flight or none. -/
def waiting (flight : Bool) : State :=
  { bench with
    threats := bench.threats.setIfInBounds 1 { resetThreat with wind := some 4000, calmSince := some 4400 }
    line := { resetLine with
      handover := .deferred, flight := if flight then some ⟨.poll 4 3, 37, 1, 0, .window, false⟩ else none } }

/-- A sample that raises RAIN with the line in each handover state, and one that takes the last WIND away. -/
theorem witness_ServiceHandover_sample :
    (∀ h : Handover, ∃ (s t : State) (v1 v2 : BitVec 3) (levels : Vector Nat 4), s.phase = .running ∧ 0 < s.due.sample
        ∧ s.line.handover = h ∧ exec (.sampleEvent v1 v2 levels) s = .next t ∧ (s.threat 0).rain = none
        ∧ (t.threat 0).rain ≠ none)
      ∧ ∀ flight : Bool, ∃ (s t : State) (v1 v2 : BitVec 3) (levels : Vector Nat 4), s.phase = .running ∧ 0 < s.due.sample
        ∧ s.line.handover = .deferred ∧ exec (.sampleEvent v1 v2 levels) s = .next t ∧ s.line.flight.isSome = flight
        ∧ s.windOrRain = true ∧ t.windOrRain = false ∧ ∀ g, g < 8 → (t.threat g).wind = none ∧ (t.threat g).rain = none := by
  refine ⟨fun h => ⟨handed h, after (exec (.sampleEvent 5 5 #v[488, 0, 0, 0]) (handed h)), 5, 5, #v[488, 0, 0, 0], rfl,
      Nat.one_pos, rfl, next_after _ ?_, ?_, ?_⟩,
    fun flight => ⟨waiting flight, after (exec (.sampleEvent 5 5 #v[900, 0, 0, 0]) (waiting flight)), 5, 5,
      #v[900, 0, 0, 0], rfl, Nat.one_pos, rfl, next_after _ ?_, ?_, ?_, ?_, ?_⟩⟩
  · cases h <;> decide +kernel
  · cases h <;> decide +kernel
  · cases h <;> decide +kernel
  · cases flight <;> decide +kernel
  · cases flight <;> rfl
  · cases flight <;> decide +kernel
  · cases flight <;> decide +kernel
  · cases flight <;> decide +kernel

theorem witness_ServiceHandover :
    (∃ s : State, s.phase = .running ∧ s.line.handover = .line)
      ∧ (∃ s : State, s.phase = .running ∧ s.line.handover = .granted)
      ∧ (∃ s : State, s.phase = .running ∧ s.line.handover = .draining ∧ s.line.flight = none)
      ∧ (∃ s : State, s.phase = .running ∧ s.line.handover = .deferred)
      ∧ (∃ s : State, s.phase = .running ∧ s.line.handover = .guarding ∧ s.line.flight = none ∧ s.svcreq = false)
      ∧ (∃ s : State, s.phase = .running ∧ s.line.handover = .guarding ∧ s.line.flight = none ∧ s.svcreq = true
        ∧ s.windOrRain = true)
      ∧ ∃ s : State, s.phase = .running ∧ s.line.handover = .guarding ∧ s.line.flight = none ∧ s.svcreq = true
        ∧ s.windOrRain = false :=
  ⟨⟨bench, rfl, rfl⟩, ⟨{ bench with line := { resetLine with handover := .granted } }, rfl, rfl⟩,
    ⟨{ bench with line := { resetLine with handover := .draining } }, rfl, rfl, rfl⟩,
    ⟨{ bench with line := { resetLine with handover := .deferred } }, rfl, rfl⟩,
    ⟨{ bench with line := { resetLine with handover := .guarding } }, rfl, rfl, rfl, rfl⟩,
    ⟨{ threatened with line := { resetLine with handover := .guarding }, svcreq := true }, by decide +kernel⟩,
    { bench with line := { resetLine with handover := .guarding }, svcreq := true }, by decide +kernel⟩

/-! ## Witnesses: the Host Link and its requests -/

theorem witness_ReceiverAndFrames :
    (∃ s : State, s.phase = .running ∧ s.host.rx = .hunt ∧ s.host.current = none)
      ∧ (∃ s : State, s.phase = .running ∧ s.host.rx = .hunt ∧ s.host.current ≠ none)
      ∧ (∃ s : State, s.phase = .running ∧ s.host.rx = .length)
      ∧ (∃ (s : State) (bytes : List Byte), s.phase = .running ∧ s.host.rx = .body 2 bytes ∧ bytes.length < 3)
      ∧ (∃ (type tag : Nat) (payload : List Byte), 0x19 = type ∧ type < 256 ∧ tag < 256 ∧ payload.length ≤ 248)
      ∧ (∃ (type tag : Nat) (payload : List Byte), type = 0 ∧ type < 256 ∧ tag < 256 ∧ payload.length = 248)
      ∧ ∃ check : List Byte, check.length = 2 ∧ check ≠ crc16Bytes [2#8, 0x19#8, 0#8] :=
  ⟨⟨bench, rfl, rfl, rfl⟩, ⟨{ bench with host := { resetHost with current := some ⟨1, 2, []⟩ } }, rfl, rfl, nofun⟩,
    ⟨{ bench with host := { resetHost with rx := .length } }, rfl, rfl⟩,
    ⟨{ bench with host := { resetHost with rx := .body 2 [1#8, 2#8] } }, [1#8, 2#8], rfl, rfl, by decide⟩,
    ⟨0x19, 0, [], by decide⟩, ⟨0, 0, List.replicate 248 0#8, by decide +kernel⟩, [0#8, 0#8], rfl, by decide +kernel⟩

/-- A frame of a request type that is lost, and one whose check differs. -/
theorem witness_ReceiverAndFrames_any :
    (∃ (s : State) (type tag : Nat) (payload : List Byte), s.phase = .running ∧ s.host.rx = .hunt ∧ type = 0x01 ∧ tag = 255
        ∧ payload = [] ∧ s.host.current ≠ none)
      ∧ ∃ (type : Nat) (check : List Byte), type = 0x18 ∧ check.length = 2
        ∧ check ≠ crc16Bytes (byteOf 2 :: byteOf type :: byteOf 0 :: []) :=
  ⟨⟨{ bench with host := { resetHost with current := some ⟨1, 2, []⟩ } }, 0x01, 255, [], rfl, rfl, rfl, rfl, rfl, nofun⟩,
    0x18, [0#8, 0#8], by decide +kernel⟩

/-- A RESTART with a payload, and a GROUP-WRITE one member short of its count. -/
theorem witness_ReceiverAndFrames_length :
    (∃ (s : State) (type : Nat) (payload : List Byte), s.phase = .running ∧ s.host.rx = .hunt ∧ s.host.current = none
        ∧ type = 0x18 ∧ payload = [0#8] ∧ [0][type - 0x18]? ≠ some payload.length)
      ∧ ∃ (type : Nat) (payload : List Byte), type = 0x05 ∧ payload.length = 11 ∧ payload[9]? = some 2#8
        ∧ ¬(10 ≤ payload.length ∧ payload.length = 10 + (payload[9]?.getD 0#8).toNat) :=
  ⟨⟨bench, 0x18, [0#8], by decide +kernel⟩, 0x05, [0#8, 0#8, 0#8, 0#8, 0#8, 0#8, 0#8, 0#8, 0#8, 2#8, 3#8], by decide +kernel⟩

theorem witness_RequestsDecodeBack : ∃ r : Request, r.wellFormed = true := ⟨.move 47 65535, by decide⟩

theorem witness_FrameIsTheRequest :
    ∃ (s : State) (c : Instr) (tag : Nat) (r : Request), c.request? = some (tag, r) ∧ c.wellFormed = true ∧ s.phase = .running
      ∧ s.host.rx = .hunt ∧ withVerify (Config.freeLockVerifies s.freeUses) r = r :=
  ⟨bench, .move 255 3 600, 255, .move 3 600, rfl, by decide, rfl, rfl, rfl⟩

/-- The same for STORE_LOCK, whose answer is free: whatever it is, one of its two commands meets the premise. -/
theorem witness_FrameIsTheRequest_lock :
    ∃ (s : State) (c : Instr) (tag : Nat) (v : Bool), c.request? = some (tag, .storeLock v) ∧ c.wellFormed = true
      ∧ s.phase = .running ∧ s.host.rx = .hunt
      ∧ withVerify (Config.freeLockVerifies s.freeUses) (.storeLock v) = .storeLock v :=
  ⟨bench, .storeLock 7 (Config.freeLockVerifies bench.freeUses), 7, _, rfl, by rfl, rfl, rfl, rfl⟩

theorem witness_RecordSentChoosesNext :
    (∃ (s : State) (n : Notice), s.phase = .running ∧ s.host.sending = some (.notice n) ∧ s.host.reply ≠ none)
      ∧ (∃ (s : State) (r : Reply), s.phase = .running ∧ s.host.sending = some (.reply r) ∧ s.host.reply = none ∧ r.type ≠ 0x98)
      ∧ ∃ (s : State) (tag : Nat), s.phase = .running ∧ s.host.sending = some (.reply ⟨0x98, tag, .ok, []⟩) :=
  ⟨⟨{ bench with host := { resetHost with sending := some (.notice (.started .pin)), reply := some ⟨0x81, 1, .ok, []⟩ } },
      .started .pin, rfl, rfl, nofun⟩,
    ⟨{ bench with host := { resetHost with sending := some (.reply ⟨0x81, 1, .ok, []⟩) } }, ⟨0x81, 1, .ok, []⟩, by decide +kernel⟩,
    { bench with host := { resetHost with sending := some (.reply ⟨0x98, 255, .ok, []⟩) } }, 255, by decide +kernel⟩

/-- For CountersReadAndZeroed and ReadsChangeNothing, at the last number each read admits and the first it refuses. -/
theorem witness_requests_taken :
    ∃ s : State, s.takes ∧ (47 < 48 ∧ ¬ 48 < 48) ∧ (2 < 3 ∧ ¬ 3 < 3) ∧ (¬ 8 ≤ 7 ∧ 8 ≤ 8) := ⟨bench, ⟨rfl, rfl⟩, by decide⟩

theorem witness_RefusalsChangeNothing :
    ∃ (s : State) (r : Request) (tag : Nat), (∀ v, r ≠ .storeLock v) ∧ (serve r tag s).code = .noSuchOpening :=
  ⟨bench, .move 48 0, 1, nofun, by decide +kernel⟩

/-- A record for opening 5, at the ends of its ranges. -/
def write5 : OpeningWire where
  enabled := true
  reachable := true
  address := 62
  travel := 15
  tolerance := 64
  speed := 0
  inrush := 101
  run := 200
  inrushDuration := 51
  zone := 3
  lamp := 63

theorem witness_OpeningWriteTakesEffect :
    ∃ (s : State) (i : Nat) (w : OpeningWire), s.takes ∧ (i < 48 ∧ s.store.lock = false ∧ s.store.state = .idle ∧ s.job? i = none
      ∧ s.reservation? i = none ∧ 1 ≤ w.address ∧ w.address ≤ 62 ∧ (w.zone ≤ 3 ∨ w.zone = 255) ∧ (w.lamp ≤ 63 ∨ w.lamp = 255)
      ∧ (w.reachable = true → w.zone ≠ 255)
      ∧ (w.enabled = true → ∀ k, k < 48 → k ≠ i → (s.cfg k).enabled = true → (s.cfg k).address ≠ w.address)) :=
  ⟨bench, 5, write5, ⟨rfl, rfl⟩, by decide +kernel⟩

/-- Opening 3, that is enabled, given a new address, and disabled: its POLL waits, its DRIVE is in flight. -/
theorem witness_OpeningWriteTakesEffect_detached :
    (∃ (s : State) (i : Nat) (w : OpeningWire), s.takes ∧ (i = 3 ∧ w.enabled = true ∧ w.address = 62 ∧ (s.cfg i).enabled = true
        ∧ (s.cfg i).address ≠ w.address ∧ s.job? i = none ∧ s.reservation? i = none
        ∧ LineRequest.poll 4 3 ∈ s.line.queue ∧ s.line.flight.isSome = true ∧ s.motionRequests.Nodup))
      ∧ (∃ (s : State) (i : Nat) (w : OpeningWire), s.takes ∧ (i = 3 ∧ w.enabled = false ∧ (s.cfg i).enabled = true
        ∧ s.job? i = none ∧ s.reservation? i = none))
      ∧ ∃ (s : State) (f : Flight), s.phase = .running ∧ s.line.flight = some f ∧ f.detached = true ∧ f.stage = .window :=
  ⟨⟨{ bench with line := { resetLine with
        queue := [.poll 4 3, .drive 5 4 0], flight := some ⟨.drive 4 3 0, 37, 1, 0, .window, false⟩, seq := 38 } }, 3, write5,
      ⟨rfl, rfl⟩, by decide +kernel⟩,
    ⟨bench, 3, { write5 with enabled := false }, ⟨rfl, rfl⟩, by decide +kernel⟩,
    { bench with line := { resetLine with flight := some ⟨.poll 4 3, 37, 1, 0, .window, true⟩ } },
    ⟨.poll 4 3, 37, 1, 0, .window, true⟩, rfl, rfl, rfl, rfl⟩

/-- A group record with the roof's bearing and sixteen members. -/
def write7 : GroupWire := ⟨8, true, false, 49, 29, 901, List.range 16⟩

theorem witness_GroupCopies :
    ∃ (s : State) (g : Nat) (w : GroupWire), s.takes ∧ g = 7 ∧ s.store.lock = false ∧ s.store.state = .idle
      ∧ w.members.length = 16 ∧ w.bearing = 8 ∧ (∀ m ∈ w.members, m < 48) ∧ w.members.Nodup :=
  ⟨bench, 7, write7, ⟨rfl, rfl⟩, by decide +kernel⟩

/-- The three ways of an apply: a member moving, a member in another group, and neither. -/
theorem witness_GroupCopies_apply :
    (∃ s : State, s.takes ∧ s.store.lock = false ∧ s.store.state = .idle
        ∧ (s.group 0).active.members.any (fun i => match s.job? i with | none => false | some j => j.state.moving) = true)
      ∧ (∃ s : State, s.takes ∧ s.store.lock = false ∧ s.store.state = .idle ∧ s.jobs = []
        ∧ (s.group 0).pendingCopy.members = [12] ∧ (s.group 1).active.members = [12])
      ∧ ∃ s : State, s.takes ∧ s.store.lock = false ∧ s.store.state = .idle ∧ s.jobs = [] ∧ (s.group 0).pendingCopy = defaultGroup :=
  ⟨⟨withJob { job3 with state := .announcing }, ⟨rfl, rfl⟩, by decide +kernel⟩,
    ⟨{ bench with groups := bench.groups.setIfInBounds 0 { bench.group 0 with pendingCopy := { defaultGroup with members := [12] } } },
      ⟨rfl, rfl⟩, by decide +kernel⟩,
    bench, ⟨rfl, rfl⟩, by decide +kernel⟩

/-- A new member under a threat, at the last free slot. -/
theorem witness_GroupCopies_members :
    ∃ (s : State) (g i : Nat), s.takes ∧ (g = 1 ∧ s.store.lock = false ∧ s.store.state = .idle ∧ s.jobs = []
      ∧ (s.threat g).rank = some .wind ∧ i ∈ (s.group g).pendingCopy.members ∧ i ∉ (s.group g).active.members
      ∧ (∀ h, h < 8 → h ≠ g → i ∉ (s.group h).active.members) ∧ (s.cfg i).enabled = true ∧ s.isHeld i = false
      ∧ (s.live i).failed = false ∧ s.closed i = false ∧ s.host.notices.length = 6) :=
  ⟨{ bench with
      threats := bench.threats.setIfInBounds 1 { resetThreat with wind := some 5000 }
      groups := bench.groups.setIfInBounds 1 ⟨defaultGroup, { defaultGroup with members := [12] }, false⟩
      host := { resetHost with
        sending := some (.notice (.started .pin)), notices := List.replicate 6 (.started .pin) } }, 1, 12, ⟨rfl, rfl⟩, by
    decide +kernel⟩

/-- A record with fields out of range, that switches sensor 0 off while zones 0 and 1 sound for a warning: the cadence of
zone 1 changes, and that of zone 0 stays. -/
theorem witness_SiteWriteTakesEffect :
    ∃ (s : State) (w : SiteWire), s.takes ∧ (s.store.lock = false ∧ s.store.state = .idle
      ∧ (∀ x ∈ w.tones.toList, x ≤ 3) ∧ (∀ x ∈ w.cadences.toList, x ≤ 1)
      ∧ (∀ x ∈ [w.rainLamp, w.windLamp, w.faultLamp, w.supplyLamp], x ≤ 63 ∨ x = 255)
      ∧ min w.shortLevel 1023 < min w.wetLevel 1023 ∧ min w.wetLevel 1023 < min w.openLevel 1023
      ∧ reservedSum s.reserv ≤ max 20 (min w.budget 800) ∧ clampSite w ≠ w
      ∧ w.rainMask.testBit 0 = false ∧ s.site.rainMask.getLsbD 0 = true
      ∧ (∀ z, z < 2 → (s.zone z).sounding = true ∧ ∃ x ∈ s.warnings, x.zone = z)
      ∧ s.site.cadence 0 = (siteOfWire (clampSite w)).cadence 0 ∧ s.site.cadence 1 ≠ (siteOfWire (clampSite w)).cadence 1) :=
  ⟨{ bench with
      warnings := [⟨3, 0, 50020⟩, ⟨4, 1, 50020⟩]
      zones := (bench.zones.setIfInBounds 0 ⟨true, false, 2, .hz2048⟩).setIfInBounds 1 ⟨true, false, 2, .hz2048⟩ },
    { defaultSite.wire with
      budget := 801, derateStart := 150
      cadences := defaultSite.wire.cadences.setIfInBounds 1 (1 - defaultSite.wire.cadences[1]) }, ⟨rfl, rfl⟩, by
    decide +kernel⟩

theorem witness_MoveCreatesManualJob :
    ∃ (s : State) (i target : Nat), s.takes ∧ (i < 48 ∧ (s.cfg i).enabled = true ∧ s.isHeld i = false ∧ s.job? i = none
      ∧ s.reservation? i = none ∧ (s.node i).presence = .present
      ∧ (s.moreOpen i (min target (s.effTravel i)) = true → s.threatened i = false ∧ s.laterMemberBusy i = false)) :=
  ⟨bench, 3, 4001, ⟨rfl, rfl⟩, by decide +kernel⟩

/-- A group with two members that qualify, and one with none. -/
theorem witness_GroupCloseCreatesJobs :
    (∃ (s : State) (g : Nat), s.takes ∧ (g < 8 ∧ (s.group g).active.members.Nodup ∧ (s.group g).active.members = [20, 21]))
      ∧ ∃ (s : State) (g : Nat), s.takes ∧ (g = 7 ∧ (s.group g).active.members = []) :=
  ⟨⟨bench, 2, ⟨rfl, rfl⟩, by decide +kernel⟩, bench, 7, ⟨rfl, rfl⟩, by decide +kernel⟩

theorem witness_JobsAreStopped_requests :
    ∀ state : JobState, ∃ (s : State) (i : Nat) (j : Job), s.takes ∧ (i < 48 ∧ s.job? i = some j ∧ j.rank = .manual) ∧ s.noApplyWaits
      ∧ QueueBounded s ∧ j.state = state := by
  intro state
  exact ⟨withJob { job3 with state := state }, 3, { job3 with state := state }, ⟨rfl, rfl⟩, ⟨by decide, rfl, rfl⟩,
    no_apply_waits bench (by decide +kernel), ⟨Nat.zero_le _, Nat.zero_le _, List.Pairwise.nil, Nat.zero_le _⟩, rfl⟩

theorem witness_HoldDealsWithTheJob :
    (∃ (s : State) (i minutes : Nat), s.takes ∧ i < 48 ∧ (s.cfg i).enabled = true ∧ 1 ≤ minutes ∧ s.held.length = 7
        ∧ s.isHeld i = false ∧ minutes = 241)
      ∧ ∃ (s : State) (i minutes : Nat), s.takes ∧ i < 48 ∧ (s.cfg i).enabled = true ∧ 1 ≤ minutes ∧ s.held.length = 8
        ∧ s.isHeld i = true ∧ minutes = 240 :=
  ⟨⟨{ bench with held := (List.range 7).map (fun k => ⟨k + 30, 6000⟩) }, 3, 241, ⟨rfl, rfl⟩, by decide +kernel⟩,
    { bench with held := (List.range 8).map (fun k => ⟨k, 6000⟩) }, 3, 240, ⟨rfl, rfl⟩, by decide +kernel⟩

/-- A job in DISPATCHING whose DRIVE still waits, and for HOLD of 0 minutes an opening that is held and one that is not. -/
theorem witness_HoldDealsWithTheJob_halt :
    (∃ (s : State) (j : Job), s.takes ∧ QueueBounded s ∧ (s.held.length < 8 ∧ s.job? 3 = some j ∧ j.state = .dispatching
        ∧ s.driveWaits 3 = true))
      ∧ (∃ s : State, s.takes ∧ (s.cfg 3).enabled = true ∧ s.isHeld 3 = true)
      ∧ ∃ s : State, s.takes ∧ (s.cfg 3).enabled = true ∧ s.isHeld 3 = false :=
  ⟨⟨{ withJob { job3 with state := .dispatching } with line := { resetLine with queue := [.drive 4 3 0] } },
      { job3 with state := .dispatching }, ⟨rfl, rfl⟩, ⟨by decide, by decide, by decide, by decide⟩, by decide +kernel⟩,
    ⟨{ bench with held := [⟨3, 6000⟩] }, ⟨rfl, rfl⟩, by decide +kernel⟩, bench, ⟨rfl, rfl⟩, by decide +kernel⟩

theorem witness_AlertsAckAndOutput :
    ∃ (s : State) (flags : Nat), s.takes ∧ flags.testBit 5 = true ∧ flags.testBit 6 = true ∧ s.alertSet .storeFault = true
      ∧ s.alertSet .supplyLow = true :=
  ⟨{ bench with alerts := 0x60 }, 0x60, ⟨rfl, rfl⟩, by decide +kernel⟩

theorem witness_StoreOperations :
    (∃ s : State, s.takes ∧ s.store.state = .idle ∧ s.store.valid = true ∧ s.store.lock = false)
      ∧ (∃ s : State, s.takes ∧ s.store.state = .idle ∧ s.store.valid = true ∧ s.store.lock = true)
      ∧ (∃ s : State, s.takes ∧ s.store.state = .idle ∧ s.store.valid = false)
      ∧ ∃ s : State, s.takes ∧ s.store.state = .erasing .erase 0 :=
  ⟨⟨bench, ⟨rfl, rfl⟩, rfl, rfl, rfl⟩, ⟨{ bench with store := ⟨.idle, true, true, none⟩ }, ⟨rfl, rfl⟩, rfl, rfl, rfl⟩,
    ⟨{ bench with store := ⟨.idle, false, false, none⟩ }, ⟨rfl, rfl⟩, rfl, rfl⟩,
    { bench with store := ⟨.erasing .erase 0, false, false, none⟩ }, ⟨rfl, rfl⟩, rfl⟩

theorem witness_StoreOperations_sectors :
    (∀ op : StoreOp, ∃ (s : State) (k : Nat), s.phase = .running ∧ s.host.notices.length = 4 ∧ s.store.state = .erasing op k
        ∧ k = 7)
      ∧ (∃ (s : State) (k : Nat), s.phase = .running ∧ s.host.notices.length < 5 ∧ s.store.state = .erasing .save k ∧ k = 6)
      ∧ ∃ (s : State) (k : Nat), s.phase = .running ∧ s.host.notices.length < 5 ∧ s.store.state = .programming k ∧ k = 3
        ∧ s.store.copy ≠ none :=
  ⟨fun op => ⟨{ bench with
        store := ⟨.erasing op 7, false, false, none⟩
        host := { resetHost with sending := some (.notice (.started .pin)), notices := List.replicate 4 (.started .pin) } }, 7, rfl, rfl, rfl,
      rfl⟩,
    ⟨{ bench with store := ⟨.erasing .save 6, false, false, none⟩ }, 6, rfl, by decide, rfl, rfl⟩,
    { bench with store := ⟨.programming 3, false, false, some defaultCopy⟩ }, 3, rfl, by decide, rfl, rfl, nofun⟩

/-! ## Witnesses: alerts, capacities and the state between events -/

theorem witness_LevelFlagsStayWithTheirConditions : ∃ s t : State, LevelFlagsFollow s ∧ step s = .next t ∧ s.supply.cutoff = true :=
  ⟨{ bench with alerts := 0x40, supply := ⟨[], true, 0⟩, pending := [.supplyEvent 200] },
    after (exec (.supplyEvent 200) { bench with alerts := 0x40, supply := ⟨[], true, 0⟩ }),
    ⟨by decide +kernel, by decide +kernel, by decide +kernel, by decide +kernel, by decide +kernel, by decide +kernel⟩,
    next_after _ (by decide +kernel), rfl⟩

theorem witness_CapacitiesHoldAndStepsSettle :
    ∃ s t : State, Capacities s ∧ Settled s ∧ ImageCanonical s ∧ step s = .next t ∧ t.jobs ≠ [] :=
  ⟨sampling, rainFront, ⟨by decide, by decide, by decide, by decide, by decide, by decide +kernel⟩, ⟨rfl, rfl⟩, rfl, sampling_steps,
    by decide +kernel⟩

end Sys2Proof.Tests
end

section
/-! SUPPORT. What SAMPLE_EVENT leaves (R24): the weather is a function of the state before it, the threat records may
move, and nothing else of the steady part but the delivered event that it takes. -/

namespace Sys2Proof.Machine

/-! ### The steady part through the operations of stage 6 -/

@[simp] theorem State.handOff_steady (s : State) (g : Nat) : (s.handOff g).steady = s.steady :=
  foldl_steady s _ (fun t i => t.coverage_steady i) _

@[simp] theorem State.forgiveMembers_steady (s : State) (g : Nat) : (s.forgiveMembers g).steady = s.steady :=
  foldl_steady s _ (fun t i => t.modLive_steady i _) _

@[simp] theorem State.followLevel_steady (s : State) (f : AlertFlag) (holds : Bool) :
    (s.followLevel f holds).steady = s.steady := by
  unfold State.followLevel
  split <;> simp

/-- From `s` to `t` no steady field but the threat records changes. -/
def OnlyThreatsMove (s t : State) : Prop := t.steady = { s with threats := t.threats }.steady

theorem OnlyThreatsMove.of_steady {s t : State} (h : t.steady = s.steady) : OnlyThreatsMove s t := by
  have hthreats : t.threats = s.threats := congrArg Steady.threats h
  rw [OnlyThreatsMove, hthreats, h]

theorem OnlyThreatsMove.trans {s t u : State} (hst : OnlyThreatsMove s t) (htu : OnlyThreatsMove t u) :
    OnlyThreatsMove s u :=
  Eq.trans htu (congrArg (fun x : Steady => { x with threats := u.threats }) hst)

theorem OnlyThreatsMove.weather_eq {s t : State} (h : OnlyThreatsMove s t) : t.weather = s.weather :=
  congrArg Steady.weather h

/-- A fold of operations that move threat records only moves threat records only. -/
theorem OnlyThreatsMove.foldl {α : Type} {f : State → α → State} (h : ∀ t x, OnlyThreatsMove t (f t x)) (l : List α)
    (s : State) : OnlyThreatsMove s (l.foldl f s) := by
  induction l generalizing s with
  | nil => exact .of_steady rfl
  | cons x xs ih => exact (h s x).trans (ih (f s x))

/-- Whatever follows the new threat record in its event (R45 to R48), of the steady part only the record changes. -/
theorem State.updateThreat_steady (s : State) (g : Nat) (evaluated : Threat) :
    (s.updateThreat g evaluated).steady
      = (s.setThreat g (Threat.withEpisode s.T (s.threat g) evaluated)).steady := by
  simp [State.updateThreat, apply_ite State.steady]

theorem State.updateThreat_onlyThreatsMove (s : State) (g : Nat) (evaluated : Threat) :
    OnlyThreatsMove s (s.updateThreat g evaluated) :=
  OnlyThreatsMove.trans (t := s.setThreat g (Threat.withEpisode s.T (s.threat g) evaluated)) rfl
    (.of_steady (s.updateThreat_steady g evaluated))

theorem State.evalGroups_onlyThreatsMove (start s : State) : OnlyThreatsMove s (State.evalGroups start s) :=
  .foldl (fun t g => t.updateThreat_onlyThreatsMove g _) _ s

/-! ### The sample event as a whole -/

/-- The weather that a sample of `s` leaves: stages 1 to 5, and what they decide for the groups (R24, R31, R32). -/
def State.sampledWeather (s : State) (v1 v2 : BitVec 3) (levels : Vector Nat 4) : Weather :=
  let w := s.weather.takeSample s.site s.T v1 v2 levels
  { w with samples := s.allSamples w.direction }

theorem State.sample_onlyThreatsMove (s : State) (v1 v2 : BitVec 3) (levels : Vector Nat 4) :
    OnlyThreatsMove { s with weather := s.sampledWeather v1 v2 levels } (s.sample v1 v2 levels) := by
  unfold State.sample
  extract_lets w measured counted vaneFollowed followed evaluated
  have hcounted : counted.steady = measured.steady := by simp [counted, apply_ite State.steady]
  have hfollowed : OnlyThreatsMove measured followed := .of_steady (by simp [followed, vaneFollowed, hcounted])
  have hevaluated : OnlyThreatsMove followed evaluated := s.evalGroups_onlyThreatsMove followed
  exact hfollowed.trans (hevaluated.trans (.of_steady (by simp [apply_ite State.steady])))

/-- SAMPLE_EVENT, delivered and taken, leaves the sampled weather; of the rest of the steady part the threat records may
move (R24, R171). -/
theorem exec_sampleEvent {s : State} (v1 v2 : BitVec 3) (levels : Vector Nat 4) (hrun : s.phase = .running)
    (hdue : 0 < s.due.sample) :
    ∃ t, exec (.sampleEvent v1 v2 levels) s = .next t ∧ t.weather = s.sampledWeather v1 v2 levels
      ∧ OnlyThreatsMove { s.takeSampleEvent with weather := s.sampledWeather v1 v2 levels } t := by
  let sampled := s.takeSampleEvent.sample v1 v2 levels
  have hexec : exec (.sampleEvent v1 v2 levels) s = .next (State.finish s.line.queue sampled) :=
    (whenDue_due s hdue).trans (event_running s hrun)
  have hmoves : OnlyThreatsMove { s.takeSampleEvent with weather := s.sampledWeather v1 v2 levels }
      (State.finish s.line.queue sampled) :=
    (s.takeSampleEvent.sample_onlyThreatsMove v1 v2 levels).trans (.of_steady (sampled.finish_steady _))
  exact ⟨_, hexec, hmoves.weather_eq, hmoves⟩

/-! ### What each stage leaves of the ring, the count and the rain inputs -/

@[simp] theorem Weather.readVane_ring (w : Weather) (v1 v2 : BitVec 3) : (w.readVane v1 v2).ring = w.ring := by
  simp [Weather.readVane, apply_ite Weather.ring]

@[simp] theorem Weather.readVane_pulses (w : Weather) (v1 v2 : BitVec 3) : (w.readVane v1 v2).pulses = w.pulses := by
  simp [Weather.readVane, apply_ite Weather.pulses]

@[simp] theorem Weather.readVane_rain (w : Weather) (v1 v2 : BitVec 3) : (w.readVane v1 v2).rain = w.rain := by
  simp [Weather.readVane, apply_ite Weather.rain]

/-- The ring takes the speed as its newest entry, and with 64 entries drops its oldest (R27). -/
theorem pushSpeed_eq (ring : List Nat) (v : Nat) :
    pushSpeed ring v = (if ring.length < 64 then ring else ring.drop 1) ++ [v] := by
  unfold pushSpeed
  split <;> rfl

theorem State.sampledWeather_ring (s : State) (v1 v2 : BitVec 3) (levels : Vector Nat 4) :
    (s.sampledWeather v1 v2 levels).ring
      = (if s.weather.ring.length < 64 then s.weather.ring else s.weather.ring.drop 1)
        ++ [windSpeed s.weather.pulses s.site.factorK] := by
  change ((s.weather.sampleWind s.site).readVane v1 v2).ring = _
  rw [Weather.readVane_ring]
  exact pushSpeed_eq ..

theorem State.sampledWeather_pulses (s : State) (v1 v2 : BitVec 3) (levels : Vector Nat 4) :
    (s.sampledWeather v1 v2 levels).pulses = 0 :=
  (s.weather.sampleWind s.site).readVane_pulses v1 v2

theorem State.sampledWeather_speed (s : State) (v1 v2 : BitVec 3) (levels : Vector Nat 4) :
    (s.sampledWeather v1 v2 levels).speed = windSpeed s.weather.pulses s.site.factorK := by
  rw [Weather.speed, s.sampledWeather_ring, List.getLast?_concat, Option.getD_some]

/-- The rain inputs are sampled one by one, each from its record before the event (R33 to R36). -/
theorem State.sampledWeather_input (s : State) (v1 v2 : BitVec 3) (levels : Vector Nat 4) {k : Nat} (hk : k < 4) :
    (s.sampledWeather v1 v2 levels).input k
      = (s.weather.input k).sample s.site s.T (s.site.rainMask.getLsbD k) levels[k] := by
  let w := (s.weather.sampleWind s.site).readVane v1 v2
  have hsampled : (s.sampledWeather v1 v2 levels).input k = w.sampled s.site s.T levels k := by
    match k, hk with
    | 0, _ | 1, _ | 2, _ | 3, _ => rfl
  have hinput : w.input k = s.weather.input k := by
    rw [Weather.input, Weather.readVane_rain]; rfl
  have hlevel : levels[k]?.getD 0 = levels[k] := by simp [hk]
  rw [hsampled, Weather.sampled, hinput, hlevel, SiteRecord.rainEnabled]

end Sys2Proof.Machine
end

section
/-! PROOFS. The anemometer (R26), and the gust and the mean of the ring (R28). -/

namespace Sys2Proof.Machine

/-! ### Gust and mean of a ring -/

theorem windSpeed_le (n factorK : Nat) : windSpeed n factorK ≤ 600 := Nat.min_le_right ..

/-- The three newest entries of the ring, or all of fewer (R28). -/
def Weather.newest (w : Weather) : List Nat := w.ring.drop (w.ring.length - 3)

theorem Weather.newest_ne_nil {w : Weather} (h : w.ring ≠ []) : w.newest ≠ [] := by
  have hlength : 0 < w.ring.length := List.length_pos_of_ne_nil h
  simp only [Weather.newest, ne_eq, List.drop_eq_nil_iff]
  omega

theorem Weather.gust_eq_max {w : Weather} (h : w.ring ≠ []) : w.gust = w.newest.max (newest_ne_nil h) := by
  change w.newest.foldl max 0 = _
  rw [List.foldl_max_eq_max (newest_ne_nil h), Nat.zero_max]

theorem Weather.gust_mem_newest {w : Weather} (h : w.ring ≠ []) : w.gust ∈ w.newest :=
  w.gust_eq_max h ▸ List.max_mem _

theorem Weather.le_gust {w : Weather} {v : Nat} (hv : v ∈ w.newest) : v ≤ w.gust := by
  have hring : w.ring ≠ [] := List.ne_nil_of_mem (List.mem_of_mem_drop hv)
  exact w.gust_eq_max hring ▸ List.le_max_of_mem hv

theorem Weather.gust_le {w : Weather} {b : Nat} (hring : w.ring ≠ []) (h : ∀ v ∈ w.ring, v ≤ b) : w.gust ≤ b :=
  h _ (List.mem_of_mem_drop (gust_mem_newest hring))

theorem Weather.sum_lt_mean_succ_mul {w : Weather} (h : w.ring ≠ []) : w.ring.sum < (w.mean + 1) * w.ring.length := by
  rw [Nat.mul_comm]
  exact Nat.lt_mul_div_succ _ (List.length_pos_of_ne_nil h)

theorem Weather.mean_le {w : Weather} {b : Nat} (h : ∀ v ∈ w.ring, v ≤ b) : w.mean ≤ b :=
  Nat.div_le_of_le_mul (List.sum_le_card_nsmul _ _ h)

/-- A sample keeps every entry of the ring within 0 to 600 (R26, R27). -/
theorem State.sampledWeather_ring_le {s : State} (v1 v2 : BitVec 3) (levels : Vector Nat 4)
    (h : ∀ v ∈ s.weather.ring, v ≤ 600) : ∀ v ∈ (s.sampledWeather v1 v2 levels).ring, v ≤ 600 := by
  intro v hv
  rw [s.sampledWeather_ring, List.mem_append, List.mem_singleton] at hv
  rcases hv with hold | rfl
  · split at hold
    · exact h v hold
    · exact h v (List.mem_of_mem_drop hold)
  · exact windSpeed_le ..

end Sys2Proof.Machine

namespace Sys2Proof.Proofs

open Sys2Proof.Machine

/-- Settles O12: the sampled weather holds the new speed and a count of 0, and the reset values are constants. -/
theorem windSpeed : Obligations.WindSpeed := by
  intro s v1 v2 levels hrun
  refine ⟨plainEvent_running s hrun, fun hdue => ?_, fun image => ⟨rfl, rfl⟩⟩
  obtain ⟨t, hexec, hweather, hmoves⟩ := exec_sampleEvent v1 v2 levels hrun hdue
  have hpulses := (congrArg Weather.pulses hweather).trans (s.sampledWeather_pulses v1 v2 levels)
  have hspeed := (congrArg Weather.speed hweather).trans (s.sampledWeather_speed v1 v2 levels)
  exact ⟨t, hexec, hpulses, hspeed, hweather ▸ hmoves⟩

/-- Settles O13: the new speed makes the ring non-empty, so the gust is the greatest of the newest entries and the mean
the quotient by a positive length. -/
theorem gustAndMean : Obligations.GustAndMean := by
  refine ⟨fun w hempty => by simp [Weather.gust, Weather.mean, hempty], fun s v1 v2 levels hrun hdue => ?_⟩
  obtain ⟨t, hexec, hweather, -⟩ := exec_sampleEvent v1 v2 levels hrun hdue
  have hring : t.weather.ring = _ := (congrArg Weather.ring hweather).trans (s.sampledWeather_ring v1 v2 levels)
  have hne : t.weather.ring ≠ [] := by simp [hring]
  refine ⟨t, hexec, hring, Weather.gust_mem_newest hne, fun v => Weather.le_gust, Nat.div_mul_le_self _ _,
    Weather.sum_lt_mean_succ_mul hne, fun hold => ?_⟩
  have hbound : ∀ v ∈ t.weather.ring, v ≤ 600 := hweather ▸ State.sampledWeather_ring_le v1 v2 levels hold
  exact ⟨Weather.gust_le hne hbound, Weather.mean_le hbound⟩

end Sys2Proof.Proofs
end

section
/-! PROOFS. A rain sensor at a sample (R33 to R36). -/

namespace Sys2Proof.Machine

theorem sinceReached_iff {since : Option Nat} {now limit : Nat} :
    sinceReached since now limit = true ↔ ∃ c, since = some c ∧ limit ≤ now - c := by
  cases since <;> simp [sinceReached]

/-- What a sample reads of an input whatever its sensor does: level and class (R33). -/
def RainSensor.reading (x : RainSensor) : Nat × RainClass := (x.level, x.kind)

/-- What a sample moves of a sensor: state, since and both runs (R34 to R36). -/
def RainSensor.course (x : RainSensor) : RainState × Option Nat × Nat × Nat := (x.state, x.since, x.outRun, x.inRun)

/-- The class of an in-range level (R33): wet or dry. -/
def rangeClass (wet : Bool) : RainClass := if wet then .wet else .dry

theorem exists_rangeClass {c : RainClass} (h : ¬(c = .short ∨ c = .open)) : ∃ wet, c = rangeClass wet := by
  cases c with
  | wet => exact ⟨true, rfl⟩
  | dry => exact ⟨false, rfl⟩
  | _ => simp at h

theorem decide_rangeClass_eq_wet (wet : Bool) : decide (rangeClass wet = .wet) = wet := by cases wet <;> rfl

/-! ### Level and class -/

section
variable (r : SiteRecord) (now level : Nat) (x : RainSensor)

theorem RainSensor.inFault_reading (kind : RainClass) : (x.inFault now kind).reading = x.reading := by
  unfold RainSensor.inFault
  split <;> (try split) <;> rfl

theorem RainSensor.outOfRange_reading : x.outOfRange.reading = x.reading := by
  unfold RainSensor.outOfRange
  split <;> rfl

theorem RainSensor.inRange_reading (wet : Bool) : (x.inRange r now wet).reading = x.reading := by
  unfold RainSensor.inRange
  split <;> (try split) <;> rfl

/-- Level and class follow the reading in every state, enabled or not (R33). -/
theorem RainSensor.sample_reading (enabled : Bool) :
    (x.sample r now enabled level).reading = (level, classify r level) := by
  unfold RainSensor.sample
  extract_lets kind y
  split
  · rfl
  split
  · exact y.inFault_reading now kind
  cases hclass : kind with
  | wet => exact y.inRange_reading r now true
  | dry => exact y.inRange_reading r now false
  | _ => exact y.outOfRange_reading

/-- A disabled sensor is held in DRY (R34). -/
theorem RainSensor.sample_course_of_disabled : (x.sample r now false level).course = (.dry, none, 0, 0) := rfl

end

/-! ### An enabled sensor out of range (R36) -/

section
variable {r : SiteRecord} {level : Nat} {x : RainSensor} (now : Nat)

/-- In FAULT the in-range run starts again. -/
theorem RainSensor.sample_course_of_fault_of_outOfRange (hstate : x.state = .fault)
    (hclass : classify r level = .short ∨ classify r level = .open) :
    (x.sample r now true level).course = (.fault, x.since, x.outRun, 0) := by
  rcases hclass with hclass | hclass <;>
    simp [RainSensor.sample, RainSensor.inFault, RainSensor.course, hstate, hclass]

/-- Outside FAULT the out-of-range run counts, and at 3 the sensor enters FAULT from whatever state it was in. -/
theorem RainSensor.sample_course_of_outOfRange (hstate : x.state ≠ .fault)
    (hclass : classify r level = .short ∨ classify r level = .open) :
    (x.sample r now true level).course
      = if 3 ≤ x.outRun + 1 then (.fault, none, 0, 0) else (x.state, x.since, x.outRun + 1, x.inRun) := by
  have houtOfRange : x.sample r now true level
      = RainSensor.outOfRange { x with level := level, kind := classify r level } := by
    rcases hclass with hclass | hclass <;> simp [RainSensor.sample, hstate, hclass]
  rw [houtOfRange]
  exact apply_ite RainSensor.course ..

/-! ### An enabled sensor in range, state by state (R35, R36) -/

variable {wet : Bool} (hclass : classify r level = rangeClass wet)
include hclass

theorem RainSensor.sample_of_inRange (hstate : x.state ≠ .fault) :
    x.sample r now true level = RainSensor.inRange r now wet { x with level := level, kind := classify r level } := by
  cases wet <;> simp [RainSensor.sample, hstate, hclass, rangeClass]

theorem RainSensor.sample_course_of_dry (hstate : x.state = .dry) :
    (x.sample r now true level).course
      = if wet then (.wetting, some now, 0, x.inRun) else (.dry, x.since, 0, x.inRun) := by
  rw [sample_of_inRange now hclass (by simp [hstate])]
  cases wet <;> simp [RainSensor.inRange, RainSensor.course, hstate]

theorem RainSensor.sample_course_of_wetting (hstate : x.state = .wetting) :
    (x.sample r now true level).course
      = if wet then
          if ∃ c, x.since = some c ∧ r.rainConfirm ≤ now - c then (.wet, none, 0, x.inRun)
          else (.wetting, x.since, 0, x.inRun)
        else (.dry, none, 0, x.inRun) := by
  rw [sample_of_inRange now hclass (by simp [hstate])]
  cases wet
  · simp [RainSensor.inRange, RainSensor.course, hstate]
  · simp only [RainSensor.inRange, hstate, sinceReached_iff, apply_ite RainSensor.course, if_true]
    rfl

theorem RainSensor.sample_course_of_wet (hstate : x.state = .wet) :
    (x.sample r now true level).course
      = if wet then (.wet, x.since, 0, x.inRun) else (.drying, some now, 0, x.inRun) := by
  rw [sample_of_inRange now hclass (by simp [hstate])]
  cases wet <;> simp [RainSensor.inRange, RainSensor.course, hstate]

theorem RainSensor.sample_course_of_drying (hstate : x.state = .drying) :
    (x.sample r now true level).course
      = if wet then (.wet, none, 0, x.inRun)
        else if ∃ c, x.since = some c ∧ r.dryConfirm ≤ now - c then (.dry, none, 0, x.inRun)
          else (.drying, x.since, 0, x.inRun) := by
  rw [sample_of_inRange now hclass (by simp [hstate])]
  cases wet
  · simp only [RainSensor.inRange, hstate, sinceReached_iff, apply_ite RainSensor.course, Bool.false_eq_true, if_false]
    rfl
  · simp [RainSensor.inRange, RainSensor.course, hstate]

/-- In FAULT the in-range run counts, and at 3 the sensor leaves FAULT by its class (R36). -/
theorem RainSensor.sample_course_of_fault (hstate : x.state = .fault) :
    (x.sample r now true level).course
      = if 3 ≤ x.inRun + 1 then if wet then (.wetting, some now, x.outRun, 0) else (.dry, none, x.outRun, 0)
        else (.fault, x.since, x.outRun, x.inRun + 1) := by
  have hinFault : x.sample r now true level
      = RainSensor.inFault now (rangeClass wet) { x with level := level, kind := classify r level } := by
    simp [RainSensor.sample, hstate, hclass]
  rw [hinFault, ← hstate]
  cases wet <;> exact apply_ite RainSensor.course ..

end

end Sys2Proof.Machine

namespace Sys2Proof.Proofs

open Sys2Proof.Machine

/-- Settles O15: the sampled weather holds each input after its own sample, and the rows of the tables are the course
lemmas, by enabled or not, by class and by state. -/
theorem rainSensorMoves : Obligations.RainSensorMoves := by
  intro s v1 v2 levels k hk hrun hdue
  obtain ⟨t, hexec, hweather, -⟩ := exec_sampleEvent v1 v2 levels hrun hdue
  refine ⟨t, hexec, ?_⟩
  extract_lets x y r
  have hy : y = x.sample r s.T (r.rainMask.getLsbD k) levels[k] :=
    (congrArg (Weather.input · k) hweather).trans (s.sampledWeather_input v1 v2 levels hk)
  have hreading : y.reading = (levels[k], classify r levels[k]) := hy ▸ x.sample_reading r s.T levels[k] _
  obtain ⟨hlevel, hkind⟩ := Prod.mk.inj hreading
  refine ⟨hlevel, hkind, ?_⟩
  change y.course = _
  by_cases hmask : r.rainMask.getLsbD k = false
  · rw [if_pos hmask, hy, hmask, x.sample_course_of_disabled]
  rw [if_neg hmask]
  rw [Bool.not_eq_false] at hmask
  rw [hmask] at hy
  by_cases hout : y.kind = .short ∨ y.kind = .open
  · have hclass : classify r levels[k] = .short ∨ classify r levels[k] = .open := hkind ▸ hout
    rw [if_pos hout, hy]
    split
    case isTrue hfault => exact RainSensor.sample_course_of_fault_of_outOfRange s.T hfault hclass
    case isFalse hfault => exact RainSensor.sample_course_of_outOfRange s.T hfault hclass
  · obtain ⟨wet, hclass⟩ := exists_rangeClass (hkind ▸ hout)
    rw [if_neg hout, hkind, hclass, decide_rangeClass_eq_wet, hy]
    cases hstate : x.state with
    | dry => rw [RainSensor.sample_course_of_dry s.T hclass hstate]; cases wet <;> rfl
    | wetting => rw [RainSensor.sample_course_of_wetting s.T hclass hstate]; cases wet <;> rfl
    | wet => rw [RainSensor.sample_course_of_wet s.T hclass hstate]; cases wet <;> rfl
    | drying => rw [RainSensor.sample_course_of_drying s.T hclass hstate]; cases wet <;> rfl
    | fault => rw [RainSensor.sample_course_of_fault s.T hclass hstate]; cases wet <;> rfl

end Sys2Proof.Proofs
end

section
/-! SUPPORT. A request that a running part takes (R154, R155): its owner's answer becomes the reply. -/

namespace Sys2Proof.Machine

/-- Every request type lies below 128, so none is answered with the type 255 (R155). -/
@[simp] theorem replyType_typeCode (r : Request) : replyType r.typeCode = r.typeCode + 128 := by cases r <;> rfl

/-- The event of a request that is taken: what the owner answers, and its reply placed (R154, R155). -/
theorem plainEvent_takeRequest {s t : State} {tag : Nat} {r : Request} {code : ResultCode} {data : List Byte}
    (htakes : s.takes) (hserve : serve r tag (s.taking tag r) = ⟨t, code, data⟩) :
    State.plainEvent (State.takeRequest tag r) s = .next (t.replied tag r code data) := by
  obtain ⟨hrun, hfree⟩ := htakes
  have hanswer : s.takeRequest tag r = s.answer ⟨r.typeCode, tag, r.payload⟩ r := if_neg (by simp [hfree])
  have henter : s.enterFrame ⟨r.typeCode, tag, r.payload⟩ = s.taking tag r := rfl
  rw [plainEvent_running s hrun, hanswer, State.answer, henter, hserve, replyType_typeCode]
  rfl

end Sys2Proof.Machine
end

section
/-! PROOFS. The counters read and zeroed (R170), the acknowledgement (R167) and the ALERT output (R168). -/

namespace Sys2Proof.Machine

/-! ### The flags and their numbers -/

theorem AlertFlag.number_lt (f : AlertFlag) : f.number < 11 := by cases f <;> decide

theorem AlertFlag.number_ofNat : ∀ n < 11, (AlertFlag.ofNat n).number = n := by decide

/-- Of the eleven flags the six event flags are the ones numbered below 6 (chapter 9). -/
theorem getLsbD_eventFlags : ∀ n < 11, eventFlags.getLsbD n = decide (n < 6) := by decide

/-- An acknowledgement clears a flag that is named and is an event flag, and no other (R167). -/
theorem State.alertSet_acknowledge (s : State) (named : Nat) (f : AlertFlag) :
    (s.acknowledge named).alertSet f = (s.alertSet f && !(named.testBit f.number && decide (f.number < 6))) := by
  have hlt : f.number < 11 := f.number_lt
  simp only [State.alertSet, State.acknowledge_alerts, BitVec.getLsbD_and, BitVec.getLsbD_not, BitVec.getLsbD_ofNat,
    getLsbD_eventFlags _ hlt, hlt, decide_true, Bool.true_and]

/-! ### The ALERT output -/

/-- The masked flags are not all clear exactly when some flag is set and unmasked: every bit is the bit of a flag (R168). -/
theorem State.alertAsserted_iff (s : State) :
    s.alertAsserted = true ↔ ∃ f : AlertFlag, s.alertSet f = true ∧ s.site.alertMask.getLsbD f.number = false := by
  have hbit (n : Nat) (hlt : n < 11) : (s.alerts &&& ~~~ s.site.alertMask).getLsbD n = true ↔
      s.alerts.getLsbD n = true ∧ s.site.alertMask.getLsbD n = false := by
    simp [hlt]
  have hsome : s.alertAsserted = true ↔ ∃ n, (s.alerts &&& ~~~ s.site.alertMask).getLsbD n = true :=
    (bne_iff_ne.trans BitVec.zero_iff_eq_false.not).trans (by simp only [not_forall, Bool.not_eq_false])
  rw [hsome]
  constructor
  · rintro ⟨n, hn⟩
    have hlt : n < 11 := BitVec.lt_of_getLsbD hn
    refine ⟨.ofNat n, ?_⟩
    rw [State.alertSet, AlertFlag.number_ofNat n hlt]
    exact (hbit n hlt).mp hn
  · rintro ⟨f, hf⟩
    exact ⟨f.number, (hbit _ f.number_lt).mpr hf⟩

/-- The output is inactive until the load completes (R172), and then follows the flags and the mask. -/
theorem State.outputs_alert_iff (s : State) :
    s.outputs.alert = true ↔ s.phase = .running ∧ s.alertAsserted = true := by
  unfold State.outputs
  split
  case isTrue hrun => exact (and_iff_right hrun).symm
  case isFalse hidle => exact iff_of_false Bool.false_ne_true fun h => hidle h.1

end Sys2Proof.Machine

namespace Sys2Proof.Proofs

open Sys2Proof.Machine

/-- Settles O55: the owner's answer is the counters as bytes beside the counters at 0. -/
theorem countersReadAndZeroed : Obligations.CountersReadAndZeroed :=
  fun _ _ htakes => plainEvent_takeRequest htakes rfl

/-- Settles O56: the acknowledgement flag by flag, and the output by the flags and the mask. -/
theorem alertsAckAndOutput : Obligations.AlertsAckAndOutput := by
  refine ⟨fun s tag flags htakes => ?_, fun s => ?_⟩
  · exact ⟨_, plainEvent_takeRequest htakes rfl, (s.taking tag (.alertsAck flags)).alertSet_acknowledge flags, rfl⟩
  · rw [s.outputs_alert_iff, s.alertAsserted_iff]

end Sys2Proof.Proofs
end
